-- ==== Sys2Proof/Word.lean ====
section
/-! DEFINITION. The word types of the block: its widths as spec/00_scope.md R6 lists them. -/

namespace Sys2Proof

/-- A pin index: the `pin` register and the pin operand are 8 bits wide (R6 `PIN_W`, R22). -/
abbrev PinIndex := BitVec 8

/-- A frequency in hertz: 16 bits (R6 `FREQ_W`, R21). -/
abbrev Hertz := BitVec 16

/-- An 8-bit register of the timer: `CMP`, `TCR`, `CNT` (R31 to R33). -/
abbrev TimerReg := BitVec 8

/-- A command word on `cmd_word[31:0]` (R80). -/
abbrev CmdWord := BitVec 32

end Sys2Proof
end

