-- ==== Sys2Proof/Config.lean ====
section
/-! DEFINITION. What one block fixes before reset (spec/00_scope.md R6), its four agents (R8), and the
model's free values. -/

namespace Sys2Proof

/-- The three OPEN parameters of R6, held as "one less than" so that the type itself carries the bounds
`1 ≤ timerClock < 2^32`, `1 ≤ NPS ≤ 16` and `1 ≤ NPINS ≤ 256`. -/
structure Params where
  clockPred : Fin 4294967295
  npsPred : Fin 16
  npinsPred : Fin 256
deriving DecidableEq, Repr, Inhabited

/-- `timerClock`, in hertz (R6). -/
def Params.timerClock (c : Params) : Nat := c.clockPred.val + 1

/-- `NPS`, the number of prescaler steps (R6); the factors are `2^0` to `2^(NPS-1)`. -/
def Params.nps (c : Params) : Nat := c.npsPred.val + 1

/-- `NPINS`, the number of pins (R6); a valid pin index is below it. -/
def Params.npins (c : Params) : Nat := c.npinsPred.val + 1

/-- Example configuration EX1 of R7 (8 000 000, 15, 6): for tests only, not the hardware's values. -/
def Params.ex1 : Params := ⟨7999999, 14, 5⟩

/-- Example configuration EX2 of R7 (16 000 000, 15, 20): for tests only. -/
def Params.ex2 : Params := ⟨15999999, 14, 19⟩

/-- Example configuration EX3 of R7 (100 000, 3, 2): for tests only. -/
def Params.ex3 : Params := ⟨99999, 2, 1⟩

/-- The four agents that take steps (R8). -/
inductive Agent where
  /-- The host: presents a command word. -/
  | host
  /-- The command sequencer: one micro-step of the command in progress. -/
  | seq
  /-- The timer: one TICK. -/
  | tmr
  /-- The interrupt context: one dispatch of the handler. -/
  | irq
deriving DecidableEq, Repr, Inhabited

/-- The parameters of the block at hand. The document gives none of them (N1 to N3), so nothing
constrains this constant: DESIGN CHOICE, safe, notes/assumptions/1.md. -/
opaque Config.params : Params

/-- FREE VALUE. Whose turn comes when the schedule in the state is used up: the model admits every
interleaving (R9), so nothing constrains it: DESIGN CHOICE, safe, notes/assumptions/2.md. -/
opaque Config.freeAgent : Nat → Agent

end Sys2Proof
end

