-- ==== Sys2Proof/Syntax.lean ====
section
/-! DEFINITION. The three commands of spec/30_encoding.md R82, one constructor for each row of
spec/opcode_table.json. -/

namespace Sys2Proof

/-- A command with its operands (R82, R83). Every value of an operand field is a value of its type. -/
inductive Instr where
  /-- `INIT`, the document's `initialize()` (R84). -/
  | init
  /-- `SETTONE pin, freq`, the document's `setTone(pin, frequency)` (R85). -/
  | settone (pin : PinIndex) (freq : Hertz)
  /-- `STOPTONE pin`, the document's `stopTone(pin)` (R86). -/
  | stoptone (pin : PinIndex)
deriving DecidableEq, Repr

end Sys2Proof
end

