-- ==== Sys2Proof/WellFormed.lean ====
section
/-! DEFINITION. Which command words are well formed: the match and mask of each row of
spec/opcode_table.json (R84 to R87). A term of `Instr` needs no further check: its operands are typed by
the widths of their fields, and every value of them decodes (R85, R86). -/

namespace Sys2Proof

/-- Does the word have the pattern `pattern` under `mask`? -/
def matchesRow (mask pattern w : CmdWord) : Bool := w &&& mask == pattern

/-- R84: INIT is the word `0x00000000` and no other. -/
def isInitWord (w : CmdWord) : Bool := matchesRow 0xFFFFFFFF 0x00000000 w

/-- R85: SETTONE has `match = 0x40000000`, `mask = 0xFF000000`. -/
def isSettoneWord (w : CmdWord) : Bool := matchesRow 0xFF000000 0x40000000 w

/-- R86: STOPTONE has `match = 0x80000000`, `mask = 0xFF00FFFF`. -/
def isStoptoneWord (w : CmdWord) : Bool := matchesRow 0xFF00FFFF 0x80000000 w

/-- R87: a word that matches none of the three rows is illegal. -/
def legalWord (w : CmdWord) : Bool := isInitWord w || isSettoneWord w || isStoptoneWord w

end Sys2Proof
end

