-- ==== Sys2Proof/Decode.lean ====
section
/-! DEFINITION. The decoder and the encoder of format `CMD` (spec/30_encoding.md R80 to R90). -/

namespace Sys2Proof

/-- Why a word is illegal: the four cases of R87, in the order the decoder tests them. -/
inductive Illegal where
  /-- `OPC = 11`. -/
  | reservedOpcode
  /-- `RSV` is not 0. -/
  | reservedBits
  /-- `OPC = 00` and one of bits 23:0 is set. -/
  | initOperandBits
  /-- `OPC = 10` and one of bits 15:0 is set. -/
  | stoptoneFreqBits
deriving DecidableEq, Repr

/-- Field `OPC`, bits 31:30 (R81). -/
def fieldOpc (w : CmdWord) : BitVec 2 := w.extractLsb' 30 2

/-- Field `RSV`, bits 29:24 (R81). -/
def fieldRsv (w : CmdWord) : BitVec 6 := w.extractLsb' 24 6

/-- Field `PINF`, bits 23:16 (R81, R83). -/
def fieldPin (w : CmdWord) : PinIndex := w.extractLsb' 16 8

/-- Field `FRQF`, bits 15:0 (R81, R83). -/
def fieldFreq (w : CmdWord) : Hertz := w.extractLsb' 0 16

/-- The decoder: total, and an illegal word is rejected by the name of its case (R82, R84 to R88). -/
def decode (w : CmdWord) : Except Illegal Instr :=
  if fieldOpc w = 0b11#2 then .error .reservedOpcode
  else if fieldRsv w ≠ 0#6 then .error .reservedBits
  else if fieldOpc w = 0b00#2 then
    if fieldPin w = 0#8 ∧ fieldFreq w = 0#16 then .ok .init else .error .initOperandBits
  else if fieldOpc w = 0b01#2 then .ok (.settone (fieldPin w) (fieldFreq w))
  else if fieldFreq w = 0#16 then .ok (.stoptone (fieldPin w))
  else .error .stoptoneFreqBits

/-- A word from its four fields, most significant first (the picture of R81). -/
def packFields (opc : BitVec 2) (rsv : BitVec 6) (pin : PinIndex) (freq : Hertz) : CmdWord :=
  opc ++ rsv ++ pin ++ freq

/-- The encoder (R84 to R86): fields a command does not use are 0. -/
def encode : Instr → CmdWord
  | .init => packFields 0b00#2 0#6 0#8 0#16
  | .settone pin freq => packFields 0b01#2 0#6 pin freq
  | .stoptone pin => packFields 0b10#2 0#6 pin 0#16

/-- The instruction read from a word given as a number, bit 0 least significant, bits from `nbits` up
being 0. The word is presented whole (R64, R80), so no byte order enters. -/
def decodeTableWord (nbits w : Nat) : Option Instr :=
  (decode (BitVec.ofNat 32 (w % 2 ^ nbits))).toOption

end Sys2Proof
end

