-- ==== Sys2Proof/Machine/State.lean ====
section
/-! DEFINITION. The state of the block (spec/10_state.md), its faults and its refusals
(spec/60_exceptions.md R171), and the state after reset (R40). -/

namespace Sys2Proof.Machine

/-- The phase register `PH` of R26: which micro-step the sequencer takes next. Its binary code is not
observable and the spec leaves it free. -/
inductive Phase where
  | idle
  | init1
  | set1
  | set2aMode
  | set2aLow
  | set2b
  | set2c
  | set2d
  | set2eCmp
  | set2eTcr
  | set3
  | stop1
  | stop2
deriving DecidableEq, Repr

/-- The five faults of R171. None is a signal of the hardware (R11): each says that the document gives the
input no defined behaviour. -/
inductive Fault where
  /-- Code 1, raised by ACCEPT of SETTONE when the pin operand is `NPINS` or more (R101). Safe. -/
  | pinInvalid (pin : PinIndex)
  /-- Code 2, raised by ACCEPT of SETTONE when the frequency operand is 0 (R101, R137). Safe. -/
  | freqZero
  /-- Code 3, raised by ACCEPT of SETTONE when the count is 0 (R137). Safe. -/
  | freqHigh (freq : Hertz)
  /-- Code 4, raised by ACCEPT of SETTONE when the prescaler search passes the last step (R136). Safe. -/
  | freqLow (freq : Hertz)
  /-- Code 5, raised where the spec's own text says `raise F_PIN_UNWRITTEN`, that is by a step that reads `PIN` while
  `PIN = none` (R22, R171): phase `STOP_2` (R118), and in states no run reaches the handler (R154) and phases
  `SET_2A_MODE` and `SET_2A_LOW`. Safe. -/
  | pinUnwritten
deriving DecidableEq, Repr

/-- The codes of R171. -/
def Fault.code : Fault → Nat
  | .pinInvalid _ => 1
  | .freqZero => 2
  | .freqHigh _ => 3
  | .freqLow _ => 4
  | .pinUnwritten => 5

/-- Why a step is refused. -/
inductive Refusal where
  /-- The instruction has no meaning in the model yet; raised by a refused arm of `exec` alone. Safe. -/
  | notModelled (mnemonic : String)
  /-- `X_ILLEGAL_WORD` of R171, raised when HOST presents a word that is none of the three commands (R87);
  the value recorded is the word. Safe. -/
  | illegalWord (w : CmdWord)
deriving DecidableEq, Repr

/-- The word a refusal records (R171), where it records one. -/
def Refusal.word? : Refusal → Option CmdWord
  | .notModelled _ => none
  | .illegalWord w => some w

/-- The events of the event history (R38 (c)). -/
inductive Event where
  /-- `RegWrite(CMP, v)`. -/
  | cmpWrite (v : TimerReg)
  /-- `RegWrite(TCR, v)`. -/
  | tcrWrite (v : TimerReg)
  /-- `PinMode(p, OUT)`. -/
  | pinMode (p : PinIndex)
  /-- `PinWrite(p, v)`. -/
  | pinWrite (p : PinIndex) (v : Bool)
  /-- `PinToggle(p)`. -/
  | pinToggle (p : PinIndex)
  /-- A dispatch of the handler. -/
  | dispatch
deriving DecidableEq, Repr

/-- The state of the machine: the hardware state of R20 to R37, the bookkeeping of R38, the parameters of
R6, and the model's own inputs (what the host will present, and whose turns come next). -/
structure State where
  /-- The parameters, fixed before reset and never changed (R6, R203). -/
  cfg : Params
  /-- `FREQ` (R21): the last-programmed frequency; 0 = none. -/
  freq : Hertz
  /-- `PIN` (R22): the recorded pin, 8 bits. Its value at reset is read by no step (notes/assumptions/4.md). -/
  pin : PinIndex
  /-- Has phase `SET_1` written `PIN` since reset? `false` is the spec's `PIN = none` (R22, R40). -/
  pinWritten : Bool
  /-- `PH` (R26). -/
  ph : Phase
  /-- `A_PIN` (R27). -/
  aPin : PinIndex
  /-- `A_FREQ` (R27). -/
  aFreq : Hertz
  /-- `T_K` (R28): the prescaler step found by the calculator. -/
  tK : BitVec 4
  /-- `T_SC` (R28): the scaled count found by the calculator. -/
  tSc : BitVec 8
  /-- `IE` (R29): the compare-match interrupt enable. -/
  ie : Bool
  /-- `MP` (R30): the match-pending flag. -/
  mp : Bool
  /-- `CMP` (R31). -/
  cmp : TimerReg
  /-- `TCR` (R32): bit 7 `RUN`, bits 6:4 reserved, bits 3:0 `PS`. -/
  tcr : TimerReg
  /-- `CNT` (R33). -/
  cnt : TimerReg
  /-- `PSC` (R34). -/
  psc : BitVec 16
  /-- `DIR[p]` for `p` from 0 up (R35); `true` = output. -/
  dir : List Bool
  /-- `LVL[p]` for `p` from 0 up (R36); `true` = high. -/
  lvl : List Bool
  /-- The fault record, oldest first (R38 (a), R172). -/
  faults : List Fault
  /-- The refusal mark, with the word refused (R38 (b), R171). -/
  refusal : Option CmdWord
  /-- The event history, oldest first (R38 (c)). -/
  history : List Event
  /-- INPUT: the command words the host has still to present, in order (R219). -/
  words : List CmdWord
  /-- INPUT: the agents whose turns come next, in order (R219). -/
  sched : List Agent
  /-- The MODEL's own counter of free turns (see `Config.freeAgent`). -/
  turn : Nat
deriving DecidableEq, Repr

/-- `TCR.RUN`, bit 7 (R32). -/
def State.run (s : State) : Bool := s.tcr.getLsbD 7

/-- `TCR.PS`, bits 3:0 (R32). -/
def State.ps (s : State) : BitVec 4 := s.tcr.extractLsb' 0 4

/-- The state after reset of a block with parameters `c` (R40, R200). `PIN` is `none`, that is not written yet;
the 0 its eight bits hold is a DESIGN CHOICE, notes/assumptions/4.md. `A_PIN`, `A_FREQ`, `T_K`, `T_SC` have no reset
value in the spec; the 0 here is a DESIGN CHOICE, notes/assumptions/5.md. -/
def State.resetWith (c : Params) : State where
  cfg := c
  freq := 0
  pin := 0
  pinWritten := false
  ph := .idle
  aPin := 0
  aFreq := 0
  tK := 0
  tSc := 0
  ie := false
  mp := false
  cmp := 0
  tcr := 0
  cnt := 0
  psc := 0
  dir := List.replicate c.npins false
  lvl := List.replicate c.npins false
  faults := []
  refusal := none
  history := []
  words := []
  sched := []
  turn := 0

/-- The machine right after reset, for the parameters the block has, whatever they are. -/
def State.reset : State := State.resetWith Config.params

end Sys2Proof.Machine
end

