-- ==== Sys2Proof/Machine/Flags.lean ====
section
/-! DEFINITION. The two flags: the interrupt enable `IE` (R29) and the match-pending flag `MP` (R30). -/

namespace Sys2Proof.Machine

/-- `IE <- b` (R109, R112, R117). -/
def State.setIe (s : State) (b : Bool) : State := { s with ie := b }

/-- `MP <- 1`: a match, whatever `IE` is and whether or not one is pending (R30, R151). -/
def State.raiseMatch (s : State) : State := { s with mp := true }

/-- `MP <- 0`: by the dispatch of the handler alone (R30, R154). -/
def State.clearMatch (s : State) : State := { s with mp := false }

/-- Is an IRQ step enabled? Exactly when `IE = 1` and `MP = 1` (R154, R174). -/
def State.irqEnabled (s : State) : Bool := s.ie && s.mp

end Sys2Proof.Machine
end

