-- ==== Sys2Proof/Machine/Ops.lean ====
section
/-! DEFINITION. The named operations over registers and pins (the primitives of spec/00_scope.md section 5),
the dispatch of the one interrupt, and the reset input. The block has no memory (R60). -/

namespace Sys2Proof.Machine

/-- What a step answers. -/
abbrev StepOutcome := Host.Outcome State Fault Refusal

/-- `PH <- phase` (R26). -/
def State.goto (s : State) (ph : Phase) : State := { s with ph := ph }

/-- Append an event to the event history (R38 (c)). -/
def State.record (s : State) (e : Event) : State := { s with history := s.history ++ [e] }

/-- `PIN <- p` (R22, R104); from then on `PIN` is not `none`. -/
def State.recordPin (s : State) (p : PinIndex) : State := { s with pin := p, pinWritten := true }

/-- `PIN` as the rules write it: the recorded pin, or `none` while nothing has written it since reset (R22, R40). -/
def State.recordedPin (s : State) : Option PinIndex := if s.pinWritten then some s.pin else none

/-- Read `PIN` and go on with it: `if PIN = none: raise F_PIN_UNWRITTEN` (R22, R118, R154). -/
def withPin (s : State) (k : PinIndex → StepOutcome) : StepOutcome :=
  if s.pinWritten then k s.pin else .fault .pinUnwritten

/-- `PinMode(p, OUT)`: `DIR[p] <- 1` (R35). An index of `NPINS` or more selects nothing (R61). -/
def State.pinMode (s : State) (p : PinIndex) : State :=
  ({ s with dir := s.dir.set p.toNat true }).record (.pinMode p)

/-- `PinWrite(p, v)`: `LVL[p] <- v`, whatever `DIR[p]` is (R36). An index of `NPINS` or more selects nothing. -/
def State.pinWrite (s : State) (p : PinIndex) (v : Bool) : State :=
  ({ s with lvl := s.lvl.set p.toNat v }).record (.pinWrite p v)

/-- `PinToggle(p)`: `LVL[p] <- 1 - LVL[p]` in one step, whatever `DIR[p]` is (R36, R66). -/
def State.pinToggle (s : State) (p : PinIndex) : State :=
  ({ s with lvl := s.lvl.modify p.toNat not }).record (.pinToggle p)

/-- `RegWrite(CMP, v)` (R31, R38). -/
def State.writeCmp (s : State) (v : TimerReg) : State := ({ s with cmp := v }).record (.cmpWrite v)

/-- `RegWrite(TCR, v)` (R32, R38). -/
def State.writeTcr (s : State) (v : TimerReg) : State := ({ s with tcr := v }).record (.tcrWrite v)

/-- Taking the one interrupt (R154, R176): nothing is saved, no mode changes, no vector is read; the whole
entry is `MP <- 0` and one toggle of the recorded pin, and there is nothing to return from (R177). -/
def takeInterrupt (s : State) : StepOutcome :=
  withPin s fun p => .next ((s.clearMatch.record .dispatch).pinToggle p)

/-- The reset input `rst` (R12, R200): every piece of state to its value of R40. The parameters stay (R203),
and the host's own plans, which are not state of the block, stay too. -/
def State.rst (s : State) : State :=
  { State.resetWith s.cfg with words := s.words, sched := s.sched, turn := s.turn }

/-- The output `cmd_ready`: 1 exactly when `PH = IDLE` (R12). -/
def State.cmdReady (s : State) : Bool := s.ph == .idle

/-- The output `pad_oe[p]` (R37): is pin `p` driven? -/
def State.padOe (s : State) (p : Nat) : Bool := s.dir.getD p false

/-- The output `pad_out[p]` (R37): the level pin `p` drives when it is driven. -/
def State.padOut (s : State) (p : Nat) : Bool := s.lvl.getD p false

/-- The reconfiguration count of R181: the writes of `CMP` and of `TCR` in the event history. -/
def State.reconfCount (s : State) : Nat :=
  s.history.countP fun e =>
    match e with
    | .cmpWrite _ | .tcrWrite _ => true
    | .pinMode _ | .pinWrite _ _ | .pinToggle _ | .dispatch => false

end Sys2Proof.Machine
end

