-- ==== Sys2Proof/Machine/Init.lean ====
section
/-! DEFINITION. INIT (spec/40_commands.md R102).

`exec` of a command is one atomic step of the main line on its behalf: ACCEPT while `PH = IDLE` (R100), and in a
phase of its own the micro-step of that phase. In a phase of another command the host's word is not taken and
nothing changes (R100: HOST waits). -/

namespace Sys2Proof.Machine

/-- ACCEPT of INIT (R100). -/
def acceptInit (s : State) : StepOutcome := .next (s.goto .init1)

/-- Phase `INIT_1` (R102): `FREQ <- 0`. -/
def phaseInit1 (s : State) : StepOutcome := .next ({ s with freq := 0 }.goto .idle)

/-- INIT: one main-line step of it. -/
def execInit (s : State) : StepOutcome :=
  match s.ph with
  | .idle => acceptInit s
  | .init1 => phaseInit1 s
  | .set1 | .set2aMode | .set2aLow | .set2b | .set2c | .set2d | .set2eCmp | .set2eTcr | .set3
  | .stop1 | .stop2 => .next s

end Sys2Proof.Machine
end

