-- ==== Sys2Proof/Machine/Calc.lean ====
section
/-! DEFINITION. The prescaler calculator and the compare-value mapper (spec/41_calculator.md). -/

namespace Sys2Proof.Machine

/-- The target half-period count of R131: two divisions, each rounded toward zero. -/
def halfPeriodCount (c : Params) (f : Hertz) : Nat := c.timerClock / f.toNat / 2

/-- The prescaler search of R132, from step `k` on: the loop of R130, given as many rounds as the first
argument says. -/
def prescalerSearch : Nat → Nat → Nat → Nat
  | 0, _, k => k
  | rounds + 1, count, k =>
    if count >>> k > 255 then prescalerSearch rounds count (k + 1) else k

/-- The rounds after which the search of R132 has ended for every count below `2^31`. -/
def searchRounds : Nat := 24

/-- The scaled count of R133. -/
def scaledCount (count k : Nat) : Nat := count >>> k

/-- `Calc(f)` of R130: the prescaler step and the scaled count, or the fault of R136 or R137. -/
def toneCalc (c : Params) (f : Hertz) : Except Fault (BitVec 4 × BitVec 8) :=
  if f = 0#16 then .error .freqZero
  else
    let count := halfPeriodCount c f
    if count = 0 then .error (.freqHigh f)
    else
      let k := prescalerSearch searchRounds count 0
      if k ≥ c.nps then .error (.freqLow f)
      else .ok (BitVec.ofNat 4 k, BitVec.ofNat 8 (scaledCount count k))

/-- The value programmed into `CMP`: scaled count minus one (R110, R133). -/
def compareValue (sc : BitVec 8) : TimerReg := sc - 1

/-- The value programmed into `TCR`: `RUN` with the prescaler step (R111). -/
def controlValue (k : BitVec 4) : TimerReg := 0x80#8 + k.setWidth 8

end Sys2Proof.Machine
end

