-- ==== Sys2Proof/Machine/Operands.lean ====
section
/-! DEFINITION. The operands of a command: their check and their latching at ACCEPT (spec/40_commands.md R100,
R101). -/

namespace Sys2Proof.Machine

/-- The fault of `Calc(f)`, where it has one (R136, R137). -/
def calcFault? (c : Params) (f : Hertz) : Option Fault :=
  match toneCalc c f with
  | .error r => some r
  | .ok _ => none

/-- The precondition of SETTONE, in the order of R101: the fault that its operands raise, if any. -/
def settoneFault? (c : Params) (p : PinIndex) (f : Hertz) : Option Fault :=
  if p.toNat ≥ c.npins then some (.pinInvalid p)
  else if f = 0#16 then some .freqZero
  else calcFault? c f

/-- `A_PIN <- p` (R100). -/
def State.latchPin (s : State) (p : PinIndex) : State := { s with aPin := p }

/-- `A_FREQ <- f` (R100). -/
def State.latchFreq (s : State) (f : Hertz) : State := { s with aFreq := f }

end Sys2Proof.Machine
end

