-- ==== Sys2Proof/Machine/Settone.lean ====
section
/-! DEFINITION. SETTONE (spec/40_commands.md R103 to R112): its ACCEPT and its nine micro-steps. -/

namespace Sys2Proof.Machine

/-- ACCEPT of SETTONE (R100): the precondition of R101, then the operands are latched. -/
def acceptSettone (p : PinIndex) (f : Hertz) (s : State) : StepOutcome :=
  match settoneFault? s.cfg p f with
  | some r => .fault r
  | none => .next (((s.latchPin p).latchFreq f).goto .set1)

/-- Phase `SET_1` (R104): the pin is recorded on every call; a changed frequency takes the long path. -/
def phaseSet1 (s : State) : StepOutcome :=
  .next ((s.recordPin s.aPin).goto (if s.aFreq ≠ s.freq then .set2aMode else .set3))

/-- Phase `SET_2A_MODE` (R105). -/
def phaseSet2aMode (s : State) : StepOutcome :=
  withPin s fun p => .next ((s.pinMode p).goto .set2aLow)

/-- Phase `SET_2A_LOW` (R106). -/
def phaseSet2aLow (s : State) : StepOutcome :=
  withPin s fun p => .next ((s.pinWrite p false).goto .set2b)

/-- Phase `SET_2B` (R107): the frequency is stored before anything is computed. -/
def phaseSet2b (s : State) : StepOutcome := .next ({ s with freq := s.aFreq }.goto .set2c)

/-- Phase `SET_2C` (R108). `Calc` cannot fault here in a run, the operand having passed R101; in a state no run
reaches, its fault is this step's. -/
def phaseSet2c (s : State) : StepOutcome :=
  match toneCalc s.cfg s.freq with
  | .error r => .fault r
  | .ok (k, sc) => .next ({ s with tK := k, tSc := sc }.goto .set2d)

/-- Phase `SET_2D` (R109): the interrupt is masked; `MP` stays. -/
def phaseSet2d (s : State) : StepOutcome := .next ((s.setIe false).goto .set2eCmp)

/-- Phase `SET_2E_CMP` (R110). -/
def phaseSet2eCmp (s : State) : StepOutcome := .next ((s.writeCmp (compareValue s.tSc)).goto .set2eTcr)

/-- Phase `SET_2E_TCR` (R111). -/
def phaseSet2eTcr (s : State) : StepOutcome := .next ((s.writeTcr (controlValue s.tK)).goto .set3)

/-- Phase `SET_3` (R112): the interrupt is enabled on every call. -/
def phaseSet3 (s : State) : StepOutcome := .next ((s.setIe true).goto .idle)

/-- SETTONE: one main-line step of it. Its operands are read at ACCEPT and from the latches afterwards (R27). -/
def execSettone (p : PinIndex) (f : Hertz) (s : State) : StepOutcome :=
  match s.ph with
  | .idle => acceptSettone p f s
  | .set1 => phaseSet1 s
  | .set2aMode => phaseSet2aMode s
  | .set2aLow => phaseSet2aLow s
  | .set2b => phaseSet2b s
  | .set2c => phaseSet2c s
  | .set2d => phaseSet2d s
  | .set2eCmp => phaseSet2eCmp s
  | .set2eTcr => phaseSet2eTcr s
  | .set3 => phaseSet3 s
  | .init1 | .stop1 | .stop2 => .next s

end Sys2Proof.Machine
end

