-- ==== Sys2Proof/Machine/Stoptone.lean ====
section
/-! DEFINITION. STOPTONE (spec/40_commands.md R116 to R120): its ACCEPT and its two micro-steps. -/

namespace Sys2Proof.Machine

/-- ACCEPT of STOPTONE (R100): the operand is latched, never checked and never read again (R116, R119). -/
def acceptStoptone (p : PinIndex) (s : State) : StepOutcome := .next ((s.latchPin p).goto .stop1)

/-- Phase `STOP_1` (R117): the interrupt is masked; `MP` and `TCR` stay. -/
def phaseStop1 (s : State) : StepOutcome := .next ((s.setIe false).goto .stop2)

/-- Phase `STOP_2` (R118): the recorded pin is driven low. -/
def phaseStop2 (s : State) : StepOutcome :=
  withPin s fun p => .next ((s.pinWrite p false).goto .idle)

/-- STOPTONE: one main-line step of it. -/
def execStoptone (p : PinIndex) (s : State) : StepOutcome :=
  match s.ph with
  | .idle => acceptStoptone p s
  | .stop1 => phaseStop1 s
  | .stop2 => phaseStop2 s
  | .init1 | .set1 | .set2aMode | .set2aLow | .set2b | .set2c | .set2d | .set2eCmp | .set2eTcr
  | .set3 => .next s

end Sys2Proof.Machine
end

