-- ==== Sys2Proof/Machine/Dispatch.lean ====
section
/-! DEFINITION. One arm for each command. `exec i s` is one atomic step of the main line on behalf of `i`. -/

namespace Sys2Proof.Machine

def exec (i : Instr) (s : State) : Host.Outcome State Fault Refusal :=
  match i with
  | .init => Sys2Proof.Machine.execInit s
  | .settone pin freq => Sys2Proof.Machine.execSettone pin freq s
  | .stoptone pin => Sys2Proof.Machine.execStoptone pin s

end Sys2Proof.Machine
end

