-- ==== Sys2Proof/Machine/Timer.lean ====
section
/-! DEFINITION. TICK, one period of the timer input clock (spec/42_events.md R150 to R153). -/

namespace Sys2Proof.Machine

/-- The division factor `2^(TCR.PS)` (R32, R150). -/
def State.divisor (s : State) : Nat := 2 ^ s.ps.toNat

/-- One counter step of R150: a match returns `CNT` to 0 and sets `MP`; otherwise `CNT` counts modulo 256. -/
def counterStep (s : State) : State :=
  if s.cnt = s.cmp then { s with cnt := 0 }.raiseMatch
  else { s with cnt := s.cnt + 1 }

/-- One TICK (R150). The step is enabled only while `TCR.RUN = 1` (`enabled`). -/
def tick (s : State) : State :=
  if s.psc.toNat + 1 ≥ s.divisor then counterStep { s with psc := 0 }
  else { s with psc := s.psc + 1 }

/-- `n` TICKs in a row. -/
def ticks : Nat → State → State
  | 0, s => s
  | n + 1, s => ticks n (tick s)

end Sys2Proof.Machine
end

