-- ==== Sys2Proof/Machine/Agents.lean ====
section
/-! DEFINITION. The steps of the four agents (spec/00_scope.md R8), when each is enabled, and whose turn it is. -/

namespace Sys2Proof.Machine

/-- The command in progress, read from `PH` and the latches (R26, R27); none while `PH = IDLE`. -/
def inProgress (s : State) : Option Instr :=
  match s.ph with
  | .idle => none
  | .init1 => some .init
  | .set1 | .set2aMode | .set2aLow | .set2b | .set2c | .set2d | .set2eCmp | .set2eTcr | .set3 =>
    some (.settone s.aPin s.aFreq)
  | .stop1 | .stop2 => some (.stoptone s.aPin)

/-- Is a step of the agent enabled? HOST: a word to present and `PH = IDLE` (R100). SEQ: a command in progress
(R122). TMR: `TCR.RUN = 1` (R150). IRQ: `IE = 1` and `MP = 1` (R154). -/
def enabled (a : Agent) (s : State) : Bool :=
  match a with
  | .host => s.cmdReady && !s.words.isEmpty
  | .seq => !s.cmdReady
  | .tmr => s.run
  | .irq => s.irqEnabled

/-- HOST presents its next word (R100): a command is accepted, an illegal word is refused (R87). -/
def hostStep (s : State) : StepOutcome :=
  match s.words with
  | [] => .next s
  | w :: ws =>
    match decode w with
    | .error _ => .refused (.illegalWord w)
    | .ok i => exec i { s with words := ws }

/-- SEQ takes the next micro-step of the command in progress (R122). -/
def seqStep (s : State) : StepOutcome :=
  match inProgress s with
  | none => .next s
  | some i => exec i s

/-- One step of an agent. An agent with no enabled step does nothing: HOST waits (R100), the timer holds (R159),
no dispatch happens (R174). -/
def agentStep (a : Agent) (s : State) : StepOutcome :=
  if enabled a s then
    match a with
    | .host => hostStep s
    | .seq => seqStep s
    | .tmr => .next (tick s)
    | .irq => takeInterrupt s
  else .next s

/-- Whose turn it is: the schedule's first entry, and a free value once the schedule is used up (R9). -/
def nextAgent (s : State) : Agent :=
  match s.sched with
  | a :: _ => a
  | [] => Config.freeAgent s.turn

/-- The state with that turn spent. -/
def spendTurn (s : State) : State :=
  match s.sched with
  | _ :: rest => { s with sched := rest }
  | [] => { s with turn := s.turn + 1 }

/-- SEQ micro-steps with no step of another agent between them, until `PH = IDLE`; at most as many as the first
argument says. -/
def seqRun : Nat → State → StepOutcome
  | 0, s => .next s
  | n + 1, s =>
    if s.cmdReady then .next s
    else
      match seqStep s with
      | .next t => seqRun n t
      | .fault r => .fault r
      | .refused r => .refused r

/-- Run a command whole: ACCEPT, then its micro-steps (at most nine, R122), with no TICK and no dispatch between
them (the reading of spec/95_test_vectors.md section 3). -/
def runCommand (i : Instr) (s : State) : StepOutcome :=
  match exec i s with
  | .next t => seqRun 9 t
  | .fault r => .fault r
  | .refused r => .refused r

/-- The words left after a step of the agent that stopped: HOST has presented its word. -/
def wordsAfterStop (a : Agent) (s : State) : List CmdWord :=
  match a with
  | .host => s.words.tail
  | .seq | .tmr | .irq => s.words

/-- The records after a fault (R38 (a), R172): the fault is added and nothing else of the block changes. -/
def recordFault (a : Agent) (r : Fault) (s : State) : State :=
  { s with faults := s.faults ++ [r], words := wordsAfterStop a s }

/-- The mark after a refusal (R38 (b), R87): set, and never cleared or replaced. -/
def recordRefusal (a : Agent) (r : Refusal) (s : State) : State :=
  { s with refusal := s.refusal.or r.word?, words := wordsAfterStop a s }

end Sys2Proof.Machine
end

