-- ==== Sys2Proof/Machine/Step.lean ====
section
/-! DEFINITION. One step of the machine, and the placing of a command before it. -/

namespace Sys2Proof.Machine

/-- One atomic step (R9): the agent whose turn it is takes its step. -/
def step (s : State) : Host.Outcome State Fault Refusal := agentStep (nextAgent s) (spendTurn s)

/-- The same step with its outcome written into the records of R38, so that it is total: a run that has a fault or a
refusal recorded is never final (R172, R219). -/
def advance (s : State) : State :=
  match step s with
  | .next t => t
  | .fault r => recordFault (nextAgent s) r (spendTurn s)
  | .refused r => recordRefusal (nextAgent s) r (spendTurn s)

/-- The state in which the very next step presents the command word `w` (of `nbits` bits, those above 0): the word
comes first in the host's list, the host has the next turn and the sequencer is idle; then come the sequencer's turns
that carry the command to its end (R122). See notes/assumptions/3.md. -/
def State.withFetchWord (s : State) (nbits w : Nat) : State :=
  { s with
    ph := .idle
    words := BitVec.ofNat 32 (w % 2 ^ nbits) :: s.words
    sched := .host :: (List.replicate 9 .seq ++ s.sched) }

end Sys2Proof.Machine
end

