-- ==== Sys2Proof/Safety.lean ====
section
/-! DEFINITION. What a safe run is, in the words the statements use: valid operands, the machine's invariant, runs of
turns, final states and fair runs. -/

namespace Sys2Proof.Machine

/-- A frequency is valid when `Calc` returns a pair for it (R135). -/
def ValidFreq (c : Params) (f : Hertz) : Prop := ∃ k sc, toneCalc c f = .ok (k, sc)

/-- The greatest valid frequency of R142. -/
def fmax (c : Params) : Nat := min 65535 (c.timerClock / 2)

/-- The least valid frequency of R142. -/
def fmin (c : Params) : Nat :=
  if c.timerClock / 2 < 2 ^ (c.nps + 7) then 1 else c.timerClock / 2 ^ (c.nps + 8) + 1

/-- The phases of SETTONE (R103). -/
def Phase.isSettone : Phase → Bool
  | .set1 | .set2aMode | .set2aLow | .set2b | .set2c | .set2d | .set2eCmp | .set2eTcr | .set3 => true
  | .idle | .init1 | .stop1 | .stop2 => false

/-- The phases after `SET_1` has recorded the pin (R104). -/
def Phase.pinRecorded : Phase → Bool
  | .set2aMode | .set2aLow | .set2b | .set2c | .set2d | .set2eCmp | .set2eTcr | .set3 => true
  | .idle | .init1 | .set1 | .stop1 | .stop2 => false

/-- The phases after `SET_2B` has stored the frequency, and `SET_3` of the short path (R104, R107). -/
def Phase.freqStored : Phase → Bool
  | .set2c | .set2d | .set2eCmp | .set2eTcr | .set3 => true
  | .idle | .init1 | .set1 | .set2aMode | .set2aLow | .set2b | .stop1 | .stop2 => false

/-- The phases in which the scratch registers hold the calculator's results (R108 to R111). -/
def Phase.scratchHeld : Phase → Bool
  | .set2d | .set2eCmp | .set2eTcr => true
  | .idle | .init1 | .set1 | .set2aMode | .set2aLow | .set2b | .set2c | .set3 | .stop1 | .stop2 => false

/-- The phases that a masking micro-step leads to (R109, R117), `SET_3` apart. -/
def Phase.masked : Phase → Bool
  | .set2eCmp | .set2eTcr | .stop2 => true
  | .idle | .init1 | .set1 | .set2aMode | .set2aLow | .set2b | .set2c | .set2d | .set3 | .stop1 => false

/-- The phases in which `FREQ` is already new and the timer registers are not both (R107 to R111). -/
def Phase.retuning : Phase → Bool
  | .set2c | .set2d | .set2eCmp | .set2eTcr => true
  | .idle | .init1 | .set1 | .set2aMode | .set2aLow | .set2b | .set3 | .stop1 | .stop2 => false

/-- The invariant of the machine: what the prose of the spec says of every state a run reaches. -/
structure State.Inv (s : State) : Prop where
  /-- There is one direction bit for each pin (R35). -/
  dirLength : s.dir.length = s.cfg.npins
  /-- There is one level latch for each pin (R36). -/
  lvlLength : s.lvl.length = s.cfg.npins
  /-- `PIN` never holds an index of `NPINS` or more (R61). -/
  pinValid : ∀ p, s.recordedPin = some p → p.toNat < s.cfg.npins
  /-- `FREQ` is 0 or a valid frequency (R21, R101). -/
  freqValid : s.freq ≠ 0#16 → ValidFreq s.cfg s.freq
  /-- A SETTONE in progress has valid operands (R101). -/
  latchPin : s.ph.isSettone = true → s.aPin.toNat < s.cfg.npins
  /-- A SETTONE in progress has valid operands (R101). -/
  latchFreq : s.ph.isSettone = true → ValidFreq s.cfg s.aFreq
  /-- After `SET_1`, `PIN` is the operand (R104). -/
  recorded : s.ph.pinRecorded = true → s.recordedPin = some s.aPin
  /-- After `SET_2B`, `FREQ` is the operand (R107). -/
  stored : s.ph.freqStored = true → s.freq = s.aFreq
  /-- After `SET_2C`, the scratch registers hold `Calc(FREQ)` (R108). -/
  scratch : s.ph.scratchHeld = true → toneCalc s.cfg s.freq = .ok (s.tK, s.tSc)
  /-- Between the halves of the bracket the interrupt is masked (R69, R117). -/
  masked : s.ph.masked = true → s.ie = false
  /-- After `SET_2E_CMP`, `CMP` is the scaled count minus one (R110). -/
  half : s.ph = .set2eTcr → s.cmp = compareValue s.tSc
  /-- Outside a reconfiguration the timer registers are those of the frequency `FREQ` holds (R24). -/
  programmed : s.ph.retuning = false → s.freq ≠ 0#16 →
    ∃ k sc, toneCalc s.cfg s.freq = .ok (k, sc) ∧ s.cmp = compareValue sc ∧ s.tcr = controlValue k
  /-- `TCR` is 0 or `0x80 + k` for a prescaler step `k` of the device (R32, U7). -/
  tcrForm : s.tcr = 0#8 ∨ ∃ k : BitVec 4, k.toNat < s.cfg.nps ∧ s.tcr = controlValue k
  /-- The block never writes `CMP = 255` (R31, R139). -/
  cmpRange : s.cmp.toNat ≤ 254
  /-- Until the first long-path SETTONE nothing has counted (R159). -/
  stopped : s.tcr = 0#8 → s.cnt = 0#8 ∧ s.psc = 0#16 ∧ s.mp = false
  /-- `PSC` stays below the largest division factor (R34, R150). -/
  divider : s.psc.toNat < 2 ^ 15
  /-- `IE` is 1 only after a SETTONE has recorded a pin (R154). -/
  enabledPin : s.recordedPin = none → s.ie = false

/-- A list of turns, taken one after another; it stops at the first fault or refusal. -/
def runTurns : List Agent → State → StepOutcome
  | [], s => .next s
  | a :: rest, s =>
    match agentStep a s with
    | .next t => runTurns rest t
    | .fault r => .fault r
    | .refused r => .refused r

/-- A final state of a run: the word list is used up, `PH = IDLE`, and no fault and no refusal is recorded (R219). -/
def State.final (s : State) : Prop :=
  s.words = [] ∧ s.ph = .idle ∧ s.faults = [] ∧ s.refusal = none

/-- An unending run under a weakly fair order of turns: a TICK, a dispatch or a micro-step that stays enabled is
eventually taken (R158). -/
structure FairRun (order : Nat → Agent) (run : Nat → State) : Prop where
  /-- Each state comes from the one before it by the step of the agent whose turn it is. -/
  steps : ∀ n, agentStep (order n) (run n) = .next (run (n + 1))
  /-- Weak fairness for TMR, IRQ and SEQ. -/
  fair : ∀ a, a ≠ .host → ∀ n, (∀ m, n ≤ m → enabled a (run m) = true) → ∃ m, n ≤ m ∧ order m = a

/-- The outcome's next state, where it has one. -/
def nextOf : StepOutcome → Option State
  | .next s => some s
  | .fault _ => none
  | .refused _ => none

/-- The outcome's fault, where it has one. -/
def faultOf : StepOutcome → Option Fault
  | .next _ => none
  | .fault r => some r
  | .refused _ => none

end Sys2Proof.Machine
end

