-- ==== Sys2Proof/Certificates/Slice0/Obligations.lean ====
section
/-! DEFINITION. The statements for the provers: what the numbered rules of spec/ say the block does. -/

open Sys2Proof Sys2Proof.Machine

/-! ## Encoding (spec/30_encoding.md) -/

/-- Decoding the word of a command gives the command back, for every value of every operand (R84 to R86). -/
def Obligations.DecodeOfEncode : Prop :=
  ∀ i : Instr, decode (encode i) = .ok i

/-- A word that decodes is the word of what it decodes to: no two words mean the same command (R88). -/
def Obligations.EncodeOfDecode : Prop :=
  ∀ (w : CmdWord) (i : Instr), decode w = .ok i → encode i = w

/-- R88: every word is exactly one of INIT, SETTONE, STOPTONE (by match and mask, R84 to R86) or illegal. -/
def Obligations.EveryWordIsOneCommandOrIllegal : Prop :=
  ∀ w : CmdWord,
    (decode w = .ok .init ↔ isInitWord w = true) ∧
    ((∃ p f, decode w = .ok (.settone p f)) ↔ isSettoneWord w = true) ∧
    ((∃ p, decode w = .ok (.stoptone p)) ↔ isStoptoneWord w = true) ∧
    ((∃ r, decode w = .error r) ↔ legalWord w = false) ∧
    ¬(isInitWord w = true ∧ isSettoneWord w = true) ∧
    ¬(isInitWord w = true ∧ isStoptoneWord w = true) ∧
    ¬(isSettoneWord w = true ∧ isStoptoneWord w = true)

/-- R83: the operands are the fields as unsigned numbers, not scaled and not shifted. -/
def Obligations.OperandsAreUnsignedFields : Prop :=
  ∀ w : CmdWord,
    (∀ p f, decode w = .ok (.settone p f) →
      p.toNat = w.toNat / 2 ^ 16 % 2 ^ 8 ∧ f.toNat = w.toNat % 2 ^ 16) ∧
    (∀ p, decode w = .ok (.stoptone p) → p.toNat = w.toNat / 2 ^ 16 % 2 ^ 8)

/-- R90: the word of each written form, as a number. -/
def Obligations.WrittenFormsGiveTheirWords : Prop :=
  (encode .init).toNat = 0 ∧
  (∀ p f, (encode (.settone p f)).toNat = 0x40000000 + p.toNat * 0x10000 + f.toNat) ∧
  (∀ p, (encode (.stoptone p)).toNat = 0x80000000 + p.toNat * 0x10000)

/-- Words written out from R84 to R87, with what they decode to (V311). -/
def Obligations.SampleWordsDecode : Prop :=
  decode 0x00000000 = .ok .init ∧
  decode 0x400402BC = .ok (.settone 4 700) ∧
  decode 0x4005FFFF = .ok (.settone 5 65535) ∧
  decode 0x80040000 = .ok (.stoptone 4) ∧
  decode 0x80FF0000 = .ok (.stoptone 255) ∧
  decode 0xC0000000 = .error .reservedOpcode ∧
  decode 0x41000000 = .error .reservedBits ∧
  decode 0x00010000 = .error .initOperandBits ∧
  decode 0x80040001 = .error .stoptoneFreqBits

/-- R87: which words are illegal; presented to an idle block on the host's turn, such a word is refused and no state of the
block changes. The model's own choices: the refused word leaves the host's list and the turn is spent
(notes/assumptions/2.md, 3.md and 7.md), and the refusal mark keeps the FIRST word refused (notes/assumptions/7.md). -/
def Obligations.IllegalWordIsRefused : Prop :=
  (∀ w : CmdWord, legalWord w = false ↔
    (fieldOpc w = 0b11#2 ∨ fieldRsv w ≠ 0#6 ∨ (fieldOpc w = 0b00#2 ∧ (fieldPin w ≠ 0#8 ∨ fieldFreq w ≠ 0#16)) ∨
      (fieldOpc w = 0b10#2 ∧ fieldFreq w ≠ 0#16))) ∧
  (∀ (s : State) (w : CmdWord) (ws : List CmdWord),
    nextAgent s = .host → s.words = w :: ws → s.ph = .idle → legalWord w = false →
    step s = .refused (.illegalWord w) ∧
    advance s = { spendTurn s with words := ws, refusal := s.refusal.or (some w) })

/-! ## Steps (spec/00_scope.md R8, R9; spec/40_commands.md R100, R122) -/

/-- R100: ACCEPT, on the host's turn. That the turn is spent and that a word taken leaves the host's list is the model's
own choice (notes/assumptions/2.md and 3.md). -/
def Obligations.AcceptTakesOneCommand : Prop :=
  ∀ (s : State) (w : CmdWord) (ws : List CmdWord), nextAgent s = .host → s.words = w :: ws →
    (s.ph = .idle → legalWord w = false → step s = .refused (.illegalWord w)) ∧
    (s.ph = .idle → decode w = .ok .init →
      step s = .next { spendTurn s with words := ws, ph := .init1 }) ∧
    (s.ph = .idle → ∀ p f, decode w = .ok (.settone p f) →
      (∀ r, settoneFault? s.cfg p f = some r → step s = .fault r) ∧
      (settoneFault? s.cfg p f = none →
        step s = .next { spendTurn s with words := ws, aPin := p, aFreq := f, ph := .set1 })) ∧
    (s.ph = .idle → ∀ p, decode w = .ok (.stoptone p) →
      step s = .next { spendTurn s with words := ws, aPin := p, ph := .stop1 }) ∧
    (s.ph ≠ .idle → step s = .next (spendTurn s))

/-- A step of the main line is `exec` of a command: of the decoded one on the host's turn, of the one in progress on
the sequencer's. Around it the step spends the turn, and the host's word (notes/assumptions/2.md, 3.md and 6.md). -/
def Obligations.StepRunsTheCommand : Prop :=
  (∀ (s : State) (w : CmdWord) (ws : List CmdWord) (i : Instr),
    nextAgent s = .host → s.words = w :: ws → s.ph = .idle → decode w = .ok i →
    step s = exec i { spendTurn s with words := ws }) ∧
  (∀ (s : State) (i : Instr),
    nextAgent s = .seq → inProgress s = some i → step s = exec i (spendTurn s))

/-- A turn of the timer is a TICK while `RUN = 1`; a turn of the interrupt context is a dispatch while `IE = 1` and
`MP = 1`; a turn of an agent with no enabled step only spends itself (R100, R150, R154, notes/assumptions/2.md). -/
def Obligations.StepRunsTimerAndHandler : Prop :=
  (∀ s : State, nextAgent s = .tmr →
    (s.tcr.getLsbD 7 = true → step s = .next (tick (spendTurn s))) ∧
    (s.tcr.getLsbD 7 = false → step s = .next (spendTurn s))) ∧
  (∀ s : State, nextAgent s = .irq →
    (s.ie = true ∧ s.mp = true → step s = takeInterrupt (spendTurn s)) ∧
    (s.ie = false ∨ s.mp = false → step s = .next (spendTurn s))) ∧
  (∀ s : State, nextAgent s = .seq → s.ph = .idle → step s = .next (spendTurn s)) ∧
  (∀ s : State, nextAgent s = .host → s.words = [] ∨ s.ph ≠ .idle → step s = .next (spendTurn s))

/-- A word placed before the next step is what that step presents, whatever the state was (model's own,
notes/assumptions/3.md). -/
def Obligations.PlacedWordRunsNext : Prop :=
  ∀ (s : State) (w : CmdWord) (i : Instr), decode w = .ok i →
    step (s.withFetchWord 32 w.toNat) =
      exec i { s with ph := .idle, sched := List.replicate 9 .seq ++ s.sched }

/-! ## INIT -/

/-- R102: INIT sets `FREQ` to 0 and writes nothing else but `PH`. -/
def Obligations.InitSetsFrequencyZero : Prop :=
  (∀ s : State, s.ph = .idle → exec .init s = .next { s with ph := .init1 }) ∧
  (∀ s : State, s.ph = .init1 → exec .init s = .next { s with freq := 0, ph := .idle }) ∧
  (∀ s : State, s.ph = .idle → runCommand .init s = .next { s with freq := 0 })

/-- What INIT leaves unchanged, in every phase. -/
def Obligations.InitFrame : Prop :=
  ∀ s t : State, exec .init s = .next t →
    t = { s with freq := t.freq, ph := t.ph } ∧ (t.freq ≠ s.freq → s.ph = .init1 ∧ t.freq = 0#16) ∧
    (t.ph ≠ s.ph → s.ph = .idle ∨ s.ph = .init1)

/-! ## SETTONE -/

/-- R101: the precondition of SETTONE, in its order: pin, zero frequency, the calculator's fault; and the stored
frequency passes it again. -/
def Obligations.SettonePreconditionOrder : Prop :=
  (∀ (s : State) (p : PinIndex) (f : Hertz), s.ph = .idle →
    (s.cfg.npins ≤ p.toNat → exec (.settone p f) s = .fault (.pinInvalid p)) ∧
    (p.toNat < s.cfg.npins → f = 0#16 → exec (.settone p f) s = .fault .freqZero) ∧
    (∀ r, p.toNat < s.cfg.npins → f ≠ 0#16 → toneCalc s.cfg f = .error r → exec (.settone p f) s = .fault r) ∧
    (∀ r, p.toNat < s.cfg.npins → f ≠ 0#16 → toneCalc s.cfg f = .ok r →
      exec (.settone p f) s = .next { s with aPin := p, aFreq := f, ph := .set1 })) ∧
  (∀ (s : State) (p : PinIndex), s.Inv → s.freq ≠ 0#16 → p.toNat < s.cfg.npins →
    settoneFault? s.cfg p s.freq = none)

/-- R104: phase `SET_1`. -/
def Obligations.SettoneRecordsThePin : Prop :=
  ∀ (s : State) (p : PinIndex) (f : Hertz), s.ph = .set1 →
    (s.aFreq ≠ s.freq → exec (.settone p f) s = .next { s with pin := s.aPin, pinWritten := true, ph := .set2aMode }) ∧
    (s.aFreq = s.freq → exec (.settone p f) s = .next { s with pin := s.aPin, pinWritten := true, ph := .set3 })

/-- R105, R106: phases `SET_2A_MODE` and `SET_2A_LOW`; and `PIN` is written in them in every run. -/
def Obligations.SettoneMakesThePinALowOutput : Prop :=
  (∀ (s : State) (p : PinIndex) (f : Hertz) (q : PinIndex), s.ph = .set2aMode → s.recordedPin = some q →
    exec (.settone p f) s = .next { s with
      dir := s.dir.set q.toNat true, history := s.history ++ [.pinMode q], ph := .set2aLow }) ∧
  (∀ (s : State) (p : PinIndex) (f : Hertz) (q : PinIndex), s.ph = .set2aLow → s.recordedPin = some q →
    exec (.settone p f) s = .next { s with
      lvl := s.lvl.set q.toNat false, history := s.history ++ [.pinWrite q false], ph := .set2b }) ∧
  (∀ s : State, s.Inv → s.ph = .set2aMode ∨ s.ph = .set2aLow → s.recordedPin = some s.aPin)

/-- R107, R108: phases `SET_2B` and `SET_2C`; and `Calc` does not fault there in any run. -/
def Obligations.SettoneStoresThenComputes : Prop :=
  (∀ (s : State) (p : PinIndex) (f : Hertz), s.ph = .set2b →
    exec (.settone p f) s = .next { s with freq := s.aFreq, ph := .set2c }) ∧
  (∀ (s : State) (p : PinIndex) (f : Hertz) (k : BitVec 4) (sc : BitVec 8), s.ph = .set2c →
    toneCalc s.cfg s.freq = .ok (k, sc) →
    exec (.settone p f) s = .next { s with tK := k, tSc := sc, ph := .set2d }) ∧
  (∀ s : State, s.Inv → s.ph = .set2c → ValidFreq s.cfg s.freq)

/-- R109 to R112: the interrupt is masked, `CMP` and then `TCR` are written, the interrupt is enabled. -/
def Obligations.SettoneReprogramsInsideTheBracket : Prop :=
  ∀ (s : State) (p : PinIndex) (f : Hertz),
    (s.ph = .set2d → exec (.settone p f) s = .next { s with ie := false, ph := .set2eCmp }) ∧
    (s.ph = .set2eCmp → exec (.settone p f) s = .next { s with
      cmp := s.tSc - 1, history := s.history ++ [.cmpWrite (s.tSc - 1)], ph := .set2eTcr }) ∧
    (s.ph = .set2eCmp → s.Inv → 1 ≤ s.tSc.toNat ∧ (s.tSc - 1).toNat = s.tSc.toNat - 1) ∧
    (s.ph = .set2eTcr → exec (.settone p f) s = .next { s with
      tcr := 0x80#8 + s.tK.setWidth 8, history := s.history ++ [.tcrWrite (0x80#8 + s.tK.setWidth 8)], ph := .set3 }) ∧
    (0x80#8 + s.tK.setWidth 8).toNat = 128 + s.tK.toNat ∧
    (s.ph = .set3 → exec (.settone p f) s = .next { s with ie := true, ph := .idle })

/-- SETTONE completes: on valid operands it is accepted, and its own micro-steps alone bring it to its end, by the long
path when the frequency differs and by the short path when it does not (R103, R113). -/
def Obligations.SettoneCompletes : Prop :=
  ∀ (s : State) (p : PinIndex) (f : Hertz) (k : BitVec 4) (sc : BitVec 8),
    s.ph = .idle → p.toNat < s.cfg.npins → toneCalc s.cfg f = .ok (k, sc) →
    exec (.settone p f) s = .next { s with aPin := p, aFreq := f, ph := .set1 } ∧
    (f ≠ s.freq → runCommand (.settone p f) s = .next { s with
      aPin := p, aFreq := f, pin := p, pinWritten := true, dir := s.dir.set p.toNat true,
      lvl := s.lvl.set p.toNat false, freq := f, tK := k, tSc := sc, ie := true, cmp := sc - 1, tcr := 0x80#8 + k.setWidth 8,
      history := s.history ++
        [.pinMode p, .pinWrite p false, .cmpWrite (sc - 1), .tcrWrite (0x80#8 + k.setWidth 8)] }) ∧
    (f = s.freq → runCommand (.settone p f) s = .next { s with
      aPin := p, aFreq := f, pin := p, pinWritten := true, ie := true })

/-- R113: the net effect of SETTONE when TICKs, but no dispatch, fall between its micro-steps, in any number and at any
places. No micro-step writes `MP`, `CNT` or `PSC`, so that they are as the TICKs left them: unchanged when no TICK falls,
and on the short path what that many TICKs make of them. -/
def Obligations.SettoneNetEffectUnderTicks : Prop :=
  ∀ (s t u : State) (p : PinIndex) (f : Hertz) (k : BitVec 4) (sc : BitVec 8) (turns : List Agent),
    s.ph = .idle → p.toNat < s.cfg.npins → toneCalc s.cfg f = .ok (k, sc) →
    exec (.settone p f) s = .next t →
    (∀ a ∈ turns, a = .seq ∨ a = .tmr) → 9 ≤ turns.count .seq →
    runTurns turns t = .next u →
    (f ≠ s.freq → u = { s with
      aPin := p, aFreq := f, pin := p, pinWritten := true, dir := s.dir.set p.toNat true,
      lvl := s.lvl.set p.toNat false, freq := f, tK := k, tSc := sc, ie := true, cmp := sc - 1, tcr := 0x80#8 + k.setWidth 8,
      history := s.history ++
        [.pinMode p, .pinWrite p false, .cmpWrite (sc - 1), .tcrWrite (0x80#8 + k.setWidth 8)],
      mp := u.mp, cnt := u.cnt, psc := u.psc }) ∧
    (f = s.freq → u = { (if s.tcr.getLsbD 7 then ticks (turns.count .tmr) s else s) with
      aPin := p, aFreq := f, pin := p, pinWritten := true, ie := true }) ∧
    (Agent.tmr ∉ turns → u.mp = s.mp ∧ u.cnt = s.cnt ∧ u.psc = s.psc) ∧
    (∀ v w : State, exec (.settone p f) v = .next w → w.mp = v.mp ∧ w.cnt = v.cnt ∧ w.psc = v.psc)

/-- R114: a second SETTONE of the same pin and frequency reprograms nothing and leaves the interrupt enabled. -/
def Obligations.SettoneTwiceDoesNotReprogram : Prop :=
  ∀ (s : State) (p : PinIndex) (f : Hertz), s.ph = .idle → p.toNat < s.cfg.npins → ValidFreq s.cfg f →
    ∃ t u, runCommand (.settone p f) s = .next t ∧ runCommand (.settone p f) t = .next u ∧
      t.ie = true ∧ u.ie = true ∧ u.cmp = t.cmp ∧ u.tcr = t.tcr ∧ u.dir = t.dir ∧ u.lvl = t.lvl ∧
      u.history = t.history ∧ u.reconfCount = t.reconfCount

/-- R115: a SETTONE of another pin at the same frequency moves the toggle target and touches nothing else; the first
pin stays as it was and the second is not made an output. -/
def Obligations.PinSwitchLeavesTheTimerAlone : Prop :=
  ∀ (s : State) (a b : PinIndex) (f : Hertz),
    s.ph = .idle → a.toNat < s.cfg.npins → b.toNat < s.cfg.npins → ValidFreq s.cfg f →
    ∃ t, runCommand (.settone a f) s = .next t ∧ t.recordedPin = some a ∧ t.freq = f ∧ t.ie = true ∧
      runCommand (.settone b f) t = .next { t with aPin := b, pin := b, pinWritten := true }

/-- What SETTONE leaves unchanged in one step, and in which phase each register it does write is written (R39). -/
def Obligations.SettoneFrame : Prop :=
  ∀ (s t : State) (p : PinIndex) (f : Hertz), exec (.settone p f) s = .next t →
    (t.cfg = s.cfg ∧ t.mp = s.mp ∧ t.cnt = s.cnt ∧ t.psc = s.psc ∧ t.faults = s.faults ∧
      t.refusal = s.refusal ∧ t.words = s.words ∧ t.sched = s.sched ∧ t.turn = s.turn) ∧
    (s.ph ≠ .idle → t.aPin = s.aPin ∧ t.aFreq = s.aFreq) ∧
    (s.ph ≠ .set1 → t.pin = s.pin ∧ t.pinWritten = s.pinWritten) ∧ (s.ph ≠ .set2b → t.freq = s.freq) ∧
    (s.ph ≠ .set2c → t.tK = s.tK ∧ t.tSc = s.tSc) ∧ (s.ph ≠ .set2d → s.ph ≠ .set3 → t.ie = s.ie) ∧
    (s.ph ≠ .set2eCmp → t.cmp = s.cmp) ∧ (s.ph ≠ .set2eTcr → t.tcr = s.tcr) ∧
    (s.ph ≠ .set2aMode → t.dir = s.dir) ∧ (s.ph ≠ .set2aLow → t.lvl = s.lvl) ∧
    (s.ph ≠ .set2aMode → s.ph ≠ .set2aLow → s.ph ≠ .set2eCmp → s.ph ≠ .set2eTcr → t.history = s.history) ∧
    (∀ q : Nat, (∀ r : PinIndex, s.recordedPin = some r → q ≠ r.toNat) →
      t.dir[q]? = s.dir[q]? ∧ t.lvl[q]? = s.lvl[q]?)

/-! ## STOPTONE -/

/-- R117, R118: phases `STOP_1` and `STOP_2`, and the ACCEPT before them. -/
def Obligations.StoptoneMasksThenDrivesLow : Prop :=
  ∀ (s : State) (q : PinIndex),
    (s.ph = .idle → exec (.stoptone q) s = .next { s with aPin := q, ph := .stop1 }) ∧
    (s.ph = .stop1 → exec (.stoptone q) s = .next { s with ie := false, ph := .stop2 }) ∧
    (∀ p, s.ph = .stop2 → s.recordedPin = some p → exec (.stoptone q) s = .next { s with
      lvl := s.lvl.set p.toNat false, history := s.history ++ [.pinWrite p false], ph := .idle }) ∧
    (s.ph = .stop2 → s.recordedPin = none → exec (.stoptone q) s = .fault .pinUnwritten)

/-- The net effect of STOPTONE run whole: with a recorded pin the interrupt is masked and that pin is low; before any
SETTONE it faults (R118, R120). -/
def Obligations.StoptoneCompletes : Prop :=
  ∀ (s : State) (q : PinIndex), s.ph = .idle →
    exec (.stoptone q) s = .next { s with aPin := q, ph := .stop1 } ∧
    (∀ p, s.recordedPin = some p → runCommand (.stoptone q) s = .next { s with
      aPin := q, ie := false, lvl := s.lvl.set p.toNat false, history := s.history ++ [.pinWrite p false] }) ∧
    (s.recordedPin = none → runCommand (.stoptone q) s = .fault .pinUnwritten)

/-- R119: the operand of STOPTONE selects nothing: whatever it is, the outcome is the same but for the register that holds
it; with an operand other than the recorded pin, the interrupt is masked, the recorded pin goes low, and the named pin is
untouched. -/
def Obligations.StoptoneOperandIsIgnored : Prop :=
  ∀ (s : State) (q r : PinIndex), s.ph = .idle →
    (∀ t, runCommand (.stoptone q) s = .next t → runCommand (.stoptone r) s = .next { t with aPin := r }) ∧
    (∀ e, runCommand (.stoptone q) s = .fault e → runCommand (.stoptone r) s = .fault e) ∧
    (∀ t p, runCommand (.stoptone q) s = .next t → s.recordedPin = some p → p ≠ q →
      t.ie = false ∧ t.lvl = s.lvl.set p.toNat false ∧ t.lvl[q.toNat]? = s.lvl[q.toNat]? ∧ t.dir = s.dir)

/-- R120: the net effect of STOPTONE; and after it no turn of any agent moves a level or enables the interrupt, whatever
words the host presents, until a SETTONE: the pin stays low. -/
def Obligations.StoppedToneStaysLow : Prop :=
  ∀ (s t u : State) (p q : PinIndex) (n : Nat), s.ph = .idle → s.recordedPin = some p →
    (∀ w ∈ s.words, isSettoneWord w = false) →
    p.toNat < s.lvl.length → runCommand (.stoptone q) s = .next t →
    Host.Core.run Sys2Proof.core n t = .next u →
    t = { s with
      aPin := q, ie := false, lvl := s.lvl.set p.toNat false, history := s.history ++ [.pinWrite p false] } ∧
    u.ie = false ∧ u.lvl[p.toNat]? = some false ∧ u.lvl = t.lvl ∧ u.dir = t.dir

/-- What STOPTONE leaves unchanged in one step (R39, R119). -/
def Obligations.StoptoneFrame : Prop :=
  ∀ (s t : State) (q : PinIndex), exec (.stoptone q) s = .next t →
    t = { s with aPin := t.aPin, ie := t.ie, lvl := t.lvl, history := t.history, ph := t.ph } ∧
    (s.ph ≠ .idle → t.aPin = s.aPin) ∧ (s.ph ≠ .stop1 → t.ie = s.ie) ∧
    (s.ph ≠ .stop2 → t.lvl = s.lvl ∧ t.history = s.history) ∧
    (∀ r : Nat, (∀ p : PinIndex, s.recordedPin = some p → r ≠ p.toNat) → t.lvl[r]? = s.lvl[r]?)

/-- A command presented while another is in progress is not taken: nothing changes (R100, R122). -/
def Obligations.BusyCommandWaits : Prop :=
  (∀ s : State, s.ph ≠ .idle → s.ph ≠ .init1 → exec .init s = .next s) ∧
  (∀ (s : State) (p : PinIndex) (f : Hertz), s.ph ≠ .idle → s.ph.isSettone = false →
    exec (.settone p f) s = .next s) ∧
  (∀ (s : State) (p : PinIndex), s.ph ≠ .idle → s.ph ≠ .stop1 → s.ph ≠ .stop2 →
    exec (.stoptone p) s = .next s)

/-! ## The calculator (spec/41_calculator.md) -/

/-- R131: the two truncating divisions are one division by `2 f`. -/
def Obligations.CountIsHalfThePeriod : Prop :=
  ∀ (c : Params) (f : Hertz), f ≠ 0#16 →
    halfPeriodCount c f = c.timerClock / f.toNat / 2 ∧ halfPeriodCount c f = c.timerClock / (2 * f.toNat)

/-- R132: the search ends on the least step whose scaled count fits in 8 bits, and its closed form. -/
def Obligations.SearchFindsTheLeastStep : Prop :=
  ∀ count : Nat, count < 2 ^ 31 →
    count / 2 ^ prescalerSearch searchRounds count 0 ≤ 255 ∧
    (∀ j, j < prescalerSearch searchRounds count 0 → 255 < count / 2 ^ j) ∧
    (count ≤ 255 → prescalerSearch searchRounds count 0 = 0) ∧
    (255 < count → prescalerSearch searchRounds count 0 = Nat.size count - 8)

/-- R133, R139: the scaled count and its range, and the range of the value written to `CMP`. -/
def Obligations.CalcRanges : Prop :=
  ∀ (c : Params) (f : Hertz) (k : BitVec 4) (sc : BitVec 8), toneCalc c f = .ok (k, sc) →
    sc.toNat = halfPeriodCount c f / 2 ^ k.toNat ∧ k.toNat < c.nps ∧
    (k = 0#4 → sc.toNat = halfPeriodCount c f ∧ 1 ≤ sc.toNat ∧ sc.toNat ≤ 255) ∧
    (k ≠ 0#4 → 128 ≤ sc.toNat ∧ sc.toNat ≤ 255) ∧
    (compareValue sc).toNat = sc.toNat - 1 ∧ (compareValue sc).toNat ≤ 254 ∧
    (k ≠ 0#4 → 127 ≤ (compareValue sc).toNat)

/-- R135: the valid frequencies. -/
def Obligations.ValidFrequencies : Prop :=
  ∀ (c : Params) (f : Hertz), ValidFreq c f ↔
    1 ≤ f.toNat ∧ 1 ≤ c.timerClock / (2 * f.toNat) ∧ c.timerClock / (2 * f.toNat) < 2 ^ (c.nps + 7)

/-- R136, R137: which fault each invalid frequency raises. -/
def Obligations.InvalidFrequenciesFault : Prop :=
  ∀ (c : Params) (f : Hertz),
    (toneCalc c f = .error .freqZero ↔ f = 0#16) ∧
    (toneCalc c f = .error (.freqHigh f) ↔ f ≠ 0#16 ∧ c.timerClock / 2 < f.toNat) ∧
    (toneCalc c f = .error (.freqLow f) ↔ f ≠ 0#16 ∧ 2 ^ (c.nps + 7) ≤ c.timerClock / (2 * f.toNat)) ∧
    (∀ r, toneCalc c f = .error r → r = .freqZero ∨ r = .freqHigh f ∨ r = .freqLow f)

/-- R140: with `P = 2^k * s`, `P <= count < P + 2^k`; the tone produced, `timerClock / (2 P)`, is never flat and is
sharp by less than one part in `s` (both cleared of their denominators). -/
def Obligations.ToneIsNeverFlat : Prop :=
  ∀ (c : Params) (f : Hertz) (k : BitVec 4) (sc : BitVec 8), toneCalc c f = .ok (k, sc) →
    2 ^ k.toNat * sc.toNat ≤ halfPeriodCount c f ∧
    halfPeriodCount c f + 1 ≤ 2 ^ k.toNat * sc.toNat + 2 ^ k.toNat ∧
    2 * f.toNat * halfPeriodCount c f ≤ c.timerClock ∧
    c.timerClock < 2 * f.toNat * (halfPeriodCount c f + 1) ∧
    f.toNat * (2 * (2 ^ k.toNat * sc.toNat)) ≤ c.timerClock ∧
    c.timerClock * sc.toNat < f.toNat * (sc.toNat + 1) * (2 * (2 ^ k.toNat * sc.toNat)) ∧
    (k ≠ 0#4 → 128 ≤ sc.toNat) ∧ (k = 0#4 → sc.toNat = halfPeriodCount c f)

/-- R142: the valid frequencies are those from FMIN to FMAX; the range of each example configuration; and a configuration
with FMIN above FMAX has no valid frequency, so that every SETTONE faults in it. -/
def Obligations.ValidRange : Prop :=
  (∀ (c : Params) (f : Hertz), ValidFreq c f ↔ fmin c ≤ f.toNat ∧ f.toNat ≤ fmax c) ∧
  (fmin .ex1 = 1 ∧ fmax .ex1 = 65535 ∧ fmin .ex2 = 2 ∧ fmax .ex2 = 65535 ∧ fmin .ex3 = 49 ∧ fmax .ex3 = 50000) ∧
  (∀ (s : State) (p : PinIndex) (f : Hertz), s.ph = .idle → fmax s.cfg < fmin s.cfg →
    ∃ r, exec (.settone p f) s = .fault r)

/-- R141: when the least valid frequency takes the last prescaler step, and when the greatest takes the first. -/
def Obligations.BoundaryFrequencies : Prop :=
  ∀ (c : Params) (f : Hertz) (k : BitVec 4) (sc : BitVec 8), toneCalc c f = .ok (k, sc) →
    (f.toNat = fmin c → 2 ≤ f.toNat → k.toNat = c.nps - 1) ∧
    (f.toNat = fmin c → f.toNat = 1 →
      (k.toNat = c.nps - 1 ↔ 2 ^ (c.nps + 6) ≤ c.timerClock / 2 ∨ c.nps = 1)) ∧
    (f.toNat = fmax c → (k = 0#4 ↔ c.timerClock / (2 * f.toNat) ≤ 255)) ∧
    (f.toNat = c.timerClock / 2 → k = 0#4) ∧
    (f.toNat = 65535 → c.timerClock < 33553920 → k = 0#4)

/-! ## The timer (spec/42_events.md) -/

/-- R150, R151: one TICK. -/
def Obligations.TickCountsAndMatches : Prop :=
  ∀ s : State,
    enabled .tmr s = s.tcr.getLsbD 7 ∧
    (s.psc.toNat + 1 < 2 ^ (s.tcr.toNat % 16) →
      tick s = { s with psc := s.psc + 1 } ∧ (s.psc + 1).toNat = s.psc.toNat + 1) ∧
    (2 ^ (s.tcr.toNat % 16) ≤ s.psc.toNat + 1 → s.cnt = s.cmp →
      tick s = { s with psc := 0, cnt := 0, mp := true }) ∧
    (2 ^ (s.tcr.toNat % 16) ≤ s.psc.toNat + 1 → s.cnt ≠ s.cmp →
      tick s = { s with psc := 0, cnt := s.cnt + 1 } ∧ (s.cnt + 1).toNat = (s.cnt.toNat + 1) % 256)

/-- R209, R210: no phase of SETTONE writes `CNT` or `PSC`, and the timer counts whatever `IE` and `PH` are. From any counter
value, the next match comes after `m - c + 1` counter steps when `c <= m` and after `257 - c + m` when `c > m`; the first
of them is due when the prescaler's interval ends (`PSC + 1 >= d`: at once when `PSC` is left over from a larger factor,
R210), each later one a full interval after the one before; and from that match on the timer is back at the same state
every full period. -/
def Obligations.NextMatchIsOnTime : Prop :=
  (∀ (s t : State) (p : PinIndex) (f : Hertz), exec (.settone p f) s = .next t → t.cnt = s.cnt ∧ t.psc = s.psc) ∧
  (∀ s : State, s.tcr.getLsbD 7 = true → agentStep .tmr s = .next (tick s)) ∧
  ∀ (s : State) (d steps n : Nat),
    d = 2 ^ (s.tcr.toNat % 16) →
    steps = (if s.cnt.toNat ≤ s.cmp.toNat then s.cmp.toNat - s.cnt.toNat + 1
      else 257 - s.cnt.toNat + s.cmp.toNat) →
    n = max 1 (d - s.psc.toNat) + d * (steps - 1) →
    ticks n s = { s with psc := 0, cnt := 0, mp := true } ∧
    (∀ m, m < n → (ticks m s).mp = s.mp) ∧
    (∀ j, ticks (n + j * (d * (s.cmp.toNat + 1))) s = { s with psc := 0, cnt := 0, mp := true })

/-- R152: in the steady state matches are exactly `2^PS * (CMP + 1)` TICKs apart. -/
def Obligations.MatchPeriodIsExact : Prop :=
  ∀ (s : State) (d : Nat), d = 2 ^ (s.tcr.toNat % 16) → s.cnt = 0#8 → s.psc = 0#16 → s.mp = false →
    (∀ m, m < d * (s.cmp.toNat + 1) → (ticks m s).mp = false) ∧
    ticks (d * (s.cmp.toNat + 1)) s = { s with mp := true }

/-- R159: while `RUN = 0` the timer holds; and once 1, `RUN` stays 1 through every step. -/
def Obligations.TimerHoldsUntilRunAndNeverStops : Prop :=
  (∀ s : State, s.tcr.getLsbD 7 = false → agentStep .tmr s = .next s) ∧
  (∀ s t : State, step s = .next t → s.tcr.getLsbD 7 = true → t.tcr.getLsbD 7 = true)

/-! ## The handler (spec/42_events.md R154, R155) -/

/-- R154: one dispatch. That it is recorded as two events of the history, `dispatch` and then `pinToggle`, is the model's own
choice (notes/assumptions/14.md). -/
def Obligations.HandlerTogglesTheRecordedPin : Prop :=
  (∀ (s : State) (p : PinIndex), s.ie = true → s.mp = true → s.recordedPin = some p →
    agentStep .irq s = .next { s with
      mp := false, lvl := s.lvl.modify p.toNat not, history := s.history ++ [.dispatch, .pinToggle p] }) ∧
  (∀ s : State, s.ie = true → s.mp = true → s.recordedPin = none → agentStep .irq s = .fault .pinUnwritten) ∧
  (∀ s : State, s.ie = false ∨ s.mp = false → agentStep .irq s = .next s) ∧
  (∀ s : State, s.Inv → s.ie = true → s.recordedPin ≠ none)

/-- R23, R155: a dispatch has no other effect: one latch changes, the recorded pin's, and every other keeps its level. -/
def Obligations.HandlerTouchesOneLatch : Prop :=
  ∀ (s t : State) (p : PinIndex), s.ie = true → s.mp = true → s.recordedPin = some p → agentStep .irq s = .next t →
    t = { s with mp := false, lvl := t.lvl, history := t.history } ∧
    t.lvl.length = s.lvl.length ∧
    (∀ b, s.lvl[p.toNat]? = some b → t.lvl[p.toNat]? = some (!b)) ∧
    (∀ q : Nat, q ≠ p.toNat → t.lvl[q]? = s.lvl[q]?)

/-- R157: with the interrupt enabled and each match dispatched before the next, in the steady state of the frequency
`FREQ` holds, there is one toggle of the recorded pin each `P = 2^k * s` TICKs: after `m` TICKs, `m / P` toggles, so that
the level is high for one match period and low for the next. The same under every order of turns in which each match is
dispatched before the next one: the toggles and the match still pending, if one is, make `m / P`. The rate
`timerClock / P` is at least `2 * FREQ` and less than `2 * FREQ * (1 + 1/s)` (cleared of denominators). -/
def Obligations.SquareWaveIsExact : Prop :=
  ∀ (s : State) (p : PinIndex) (k : BitVec 4) (sc : BitVec 8),
    s.Inv → s.ph = .idle → s.freq ≠ 0#16 → toneCalc s.cfg s.freq = .ok (k, sc) → s.ie = true → s.recordedPin = some p →
    s.cnt = 0#8 → s.psc = 0#16 → s.mp = false →
    (∀ m, ∃ t, runTurns (List.replicate m [Agent.tmr, .irq]).flatten s = .next t ∧
      t.lvl = (if m / (2 ^ k.toNat * sc.toNat) % 2 = 1 then s.lvl.modify p.toNat not else s.lvl) ∧
      t.history.count .dispatch = s.history.count .dispatch + m / (2 ^ k.toNat * sc.toNat) ∧
      t.recordedPin = s.recordedPin ∧ t.ie = true ∧ t.dir = s.dir) ∧
    (∀ turns : List Agent, (∀ a ∈ turns, a ≠ .host) →
      (∀ (before : List Agent) (v : State), before ++ [Agent.tmr] <+: turns → runTurns before s = .next v →
        (before.count .tmr + 1) % (2 ^ k.toNat * sc.toNat) = 0 → v.mp = false) →
      ∃ t toggles, runTurns turns s = .next t ∧
        toggles + (if t.mp then 1 else 0) = turns.count .tmr / (2 ^ k.toNat * sc.toNat) ∧
        t.lvl = (if toggles % 2 = 1 then s.lvl.modify p.toNat not else s.lvl) ∧
        t.history.count .dispatch = s.history.count .dispatch + toggles ∧
        t.recordedPin = s.recordedPin ∧ t.ie = true ∧ t.dir = s.dir) ∧
    2 * s.freq.toNat * (2 ^ k.toNat * sc.toNat) ≤ s.cfg.timerClock ∧
    s.cfg.timerClock * sc.toNat < 2 * s.freq.toNat * (sc.toNat + 1) * (2 ^ k.toNat * sc.toNat)

/-- The handler reads `PIN`, `IE`, `MP` and one latch only: two states that differ in the frequency, the timer's
registers, the directions and the command in progress give dispatches that differ in just these (R39, R154). -/
def Obligations.HandlerReadsOnlyThePin : Prop :=
  ∀ (s t : State) (freq aFreq : Hertz) (aPin : PinIndex) (ph : Phase) (cmp tcr cnt : TimerReg) (psc : BitVec 16)
    (dir : List Bool), agentStep .irq s = .next t →
    agentStep .irq { s with
      freq := freq, aFreq := aFreq, aPin := aPin, ph := ph, cmp := cmp, tcr := tcr, cnt := cnt, psc := psc, dir := dir } =
    .next { t with
      freq := freq, aFreq := aFreq, aPin := aPin, ph := ph, cmp := cmp, tcr := tcr, cnt := cnt, psc := psc, dir := dir }

/-! ## Who writes what, over every step of every agent (spec/10_state.md) -/

/-- R29: only `SET_3` enables the interrupt, only `SET_2D` and `STOP_1` mask it. -/
def Obligations.OnlyThreePhasesWriteTheEnable : Prop :=
  ∀ s t : State, step s = .next t → t.ie ≠ s.ie →
    nextAgent s = .seq ∧ (t.ie = true → s.ie = false ∧ s.ph = .set3) ∧
    (t.ie = false → s.ie = true ∧ (s.ph = .set2d ∨ s.ph = .stop1))

/-- R30: only a TICK with a match sets the pending flag, only a dispatch clears it. -/
def Obligations.OnlyMatchAndDispatchWriteThePendingFlag : Prop :=
  ∀ s t : State, step s = .next t → t.mp ≠ s.mp →
    (t.mp = true → nextAgent s = .tmr ∧ s.tcr.getLsbD 7 = true ∧ s.cnt = s.cmp ∧ t.cnt = 0#8) ∧
    (t.mp = false → nextAgent s = .irq ∧ s.ie = true)

/-- R21, R22: only `INIT_1` and `SET_2B` write `FREQ`, only `SET_1` writes `PIN`. -/
def Obligations.OnlyTheirPhasesWriteFreqAndPin : Prop :=
  ∀ s t : State, step s = .next t →
    (t.freq ≠ s.freq → nextAgent s = .seq ∧
      ((s.ph = .init1 ∧ t.freq = 0#16) ∨ (s.ph = .set2b ∧ t.freq = s.aFreq))) ∧
    (t.pin ≠ s.pin ∨ t.pinWritten ≠ s.pinWritten → nextAgent s = .seq ∧ s.ph = .set1 ∧ t.recordedPin = some s.aPin)

/-- R31 to R34: only `SET_2E_CMP` writes `CMP` and only `SET_2E_TCR` writes `TCR`, with the values of R110 and R111; only
TMR writes `CNT` and `PSC`. -/
def Obligations.OnlyTheirWritersWriteTheTimer : Prop :=
  ∀ s t : State, step s = .next t →
    (t.cmp ≠ s.cmp → nextAgent s = .seq ∧ s.ph = .set2eCmp ∧ t.cmp = s.tSc - 1) ∧
    (t.tcr ≠ s.tcr → nextAgent s = .seq ∧ s.ph = .set2eTcr ∧ t.tcr = 0x80#8 + s.tK.setWidth 8) ∧
    (t.cnt ≠ s.cnt ∨ t.psc ≠ s.psc → nextAgent s = .tmr ∧ s.tcr.getLsbD 7 = true)

/-- R35, R36: a direction bit is only ever set, by `SET_2A_MODE` for the recorded pin; a level latch is only written by
`SET_2A_LOW` and `STOP_2` (to low) and by the handler (inverted), for the recorded pin. -/
def Obligations.OnlyTheRecordedPinIsDriven : Prop :=
  ∀ (s t : State) (q : Nat), step s = .next t →
    (t.dir[q]? ≠ s.dir[q]? → nextAgent s = .seq ∧ s.ph = .set2aMode ∧ s.recordedPin.map BitVec.toNat = some q ∧
      t.dir[q]? = some true) ∧
    (t.lvl[q]? ≠ s.lvl[q]? → s.recordedPin.map BitVec.toNat = some q ∧
      ((nextAgent s = .seq ∧ (s.ph = .set2aLow ∨ s.ph = .stop2) ∧ t.lvl[q]? = some false) ∨
        (nextAgent s = .irq ∧ s.ie = true ∧ s.mp = true ∧ t.lvl[q]? = s.lvl[q]?.map not)))

/-- R38, R172, R203: no step changes the parameters; the fault record only grows, and the refusal mark, once set, stays;
a run with either is never final. -/
def Obligations.RecordsAreNeverCleared : Prop :=
  ∀ s : State,
    (advance s).cfg = s.cfg ∧ s.faults <+: (advance s).faults ∧ s.history <+: (advance s).history ∧
    (∀ w, s.refusal = some w → (advance s).refusal = some w) ∧
    (∀ r, step s = .fault r → (advance s).faults = s.faults ++ [r] ∧ ¬(advance s).final)

/-- R181: the reconfiguration count rises by 2 on a long-path SETTONE and by 0 on a short-path SETTONE, on INIT and on
STOPTONE. -/
def Obligations.ReconfigurationCount : Prop :=
  ∀ s t : State, s.ph = .idle →
    (∀ p f, runCommand (.settone p f) s = .next t → f ≠ s.freq → t.reconfCount = s.reconfCount + 2) ∧
    (∀ p f, runCommand (.settone p f) s = .next t → f = s.freq → t.reconfCount = s.reconfCount) ∧
    (runCommand .init s = .next t → t.reconfCount = s.reconfCount) ∧
    (∀ p, runCommand (.stoptone p) s = .next t → t.reconfCount = s.reconfCount)

/-! ## Invariants, reset, the bracket, and progress -/

/-- Every step of every agent keeps the machine's invariant, in every state and under every schedule. -/
def Obligations.StepKeepsInvariant : Prop :=
  ∀ s t : State, s.Inv → step s = .next t → t.Inv

/-- The invariant holds after reset, whatever the parameters. -/
def Obligations.ResetMeetsInvariant : Prop :=
  State.reset.Inv ∧ ∀ c : Params, (State.resetWith c).Inv

/-- R40, R200: the state after reset, by power-on and by the reset input, for every value of the parameters; only ACCEPT
can be enabled in it. -/
def Obligations.ResetState : Prop :=
  ∀ (s r : State), (r = State.reset ∨ (∃ c, r = State.resetWith c) ∨ r = s.rst) →
    r.freq = 0#16 ∧ r.recordedPin = none ∧ r.ph = .idle ∧ r.ie = false ∧ r.mp = false ∧ r.cmp = 0#8 ∧ r.tcr = 0#8 ∧ r.cnt = 0#8 ∧
    r.psc = 0#16 ∧ r.dir = List.replicate r.cfg.npins false ∧ r.lvl = List.replicate r.cfg.npins false ∧
    r.faults = [] ∧ r.refusal = none ∧ r.history = [] ∧
    (∀ p, r.padOe p = false) ∧
    enabled .seq r = false ∧ enabled .tmr r = false ∧ enabled .irq r = false

/-- R69: from the masking micro-step `SET_2D` until `SET_3` no dispatch happens, however many turns of the timer, the
interrupt context and the host fall between; the timer and the pending flag are not stopped by it. -/
def Obligations.BracketKeepsTheHandlerOut : Prop :=
  ∀ (s t : State) (turns : List Agent), s.ph = .set2d → turns.count .seq ≤ 2 →
    runTurns (.seq :: turns) s = .next t →
    t.ie = false ∧ t.lvl = s.lvl ∧ t.history.count .dispatch = s.history.count .dispatch ∧
    (s.mp = true → t.mp = true) ∧ (s.tcr.getLsbD 7 = true → t.tcr.getLsbD 7 = true)

/-- R205, second half: a long-path SETTONE issued while the interrupt is masked reaches `SET_3`, after its eight micro-steps
before it, with its pin low, however many turns of the timer, the interrupt context and the host fall between them. -/
def Obligations.MaskedSettoneStartsLow : Prop :=
  ∀ (s t u : State) (p : PinIndex) (f : Hertz) (turns : List Agent),
    s.ph = .idle → s.ie = false → p.toNat < s.lvl.length → f ≠ s.freq →
    exec (.settone p f) s = .next t → turns.count .seq = 8 → runTurns turns t = .next u →
    u.ph = .set3 ∧ u.lvl[p.toNat]? = some false

/-- R122: in every state that meets the invariant, the command in progress ends after at most nine micro-steps; only
`STOP_2` can fault, and only before any SETTONE has recorded a pin. -/
def Obligations.CommandEndsWithinNineMicroSteps : Prop :=
  ∀ s : State, s.Inv →
    (∃ t, seqRun 9 s = .next t ∧ t.ph = .idle) ∨
    (seqRun 9 s = .fault .pinUnwritten ∧ s.recordedPin = none ∧ (s.ph = .stop1 ∨ s.ph = .stop2))

/-- R158, R122: in a run that neither faults nor refuses, under a weakly fair order of turns, every command in progress ends,
whatever the other agents do. -/
def Obligations.FairRunFinishesTheCommand : Prop :=
  ∀ (order : Nat → Agent) (run : Nat → State), FairRun order run → ∀ n, ∃ m, n ≤ m ∧ (run m).ph = .idle
end

