-- ==== Sys2Proof/Laws/Decode.lean ====
section
/-! SUPPORT. The four fields of a word packed from fields, and the word as a number. -/

namespace Sys2Proof

variable (opc : BitVec 2) (rsv : BitVec 6) (pin : PinIndex) (freq : Hertz)

theorem fieldOpc_packFields : fieldOpc (packFields opc rsv pin freq) = opc := by
  ext i hi
  simp only [fieldOpc, packFields, BitVec.getElem_extractLsb', BitVec.getLsbD_append]
  interval_cases i <;> simp

theorem fieldRsv_packFields : fieldRsv (packFields opc rsv pin freq) = rsv := by
  ext i hi
  simp only [fieldRsv, packFields, BitVec.getElem_extractLsb', BitVec.getLsbD_append]
  interval_cases i <;> simp

theorem fieldPin_packFields : fieldPin (packFields opc rsv pin freq) = pin := by
  ext i hi
  simp only [fieldPin, packFields, BitVec.getElem_extractLsb', BitVec.getLsbD_append]
  interval_cases i <;> simp

theorem fieldFreq_packFields : fieldFreq (packFields opc rsv pin freq) = freq := by
  ext i hi
  simp only [fieldFreq, packFields, BitVec.getElem_extractLsb', BitVec.getLsbD_append]
  interval_cases i <;> simp

/-- The word as a number. -/
theorem packFields_toNat : (packFields opc rsv pin freq).toNat =
    opc.toNat * 2 ^ 30 + rsv.toNat * 2 ^ 24 + pin.toNat * 2 ^ 16 + freq.toNat := by
  have h : (packFields opc rsv pin freq).toNat =
      ((opc.toNat <<< 6 ||| rsv.toNat) <<< 8 ||| pin.toNat) <<< 16 ||| freq.toNat := by
    simp only [packFields, BitVec.toNat_append]
  rw [h, ← Nat.shiftLeft_add_eq_or_of_lt freq.isLt, ← Nat.shiftLeft_add_eq_or_of_lt pin.isLt,
    ← Nat.shiftLeft_add_eq_or_of_lt rsv.isLt]
  simp only [Nat.shiftLeft_eq]
  omega

/-- A word is its four fields. -/
theorem packFields_fields (w : CmdWord) :
    packFields (fieldOpc w) (fieldRsv w) (fieldPin w) (fieldFreq w) = w := by
  apply BitVec.eq_of_toNat_eq
  have hw := w.isLt
  rw [packFields_toNat]
  simp only [fieldOpc, fieldRsv, fieldPin, fieldFreq, BitVec.extractLsb'_toNat, Nat.shiftRight_eq_div_pow]
  omega

end Sys2Proof
end

