-- ==== Sys2Proof/Laws/State.lean ====
section
/-! SUPPORT. What each named update of the state does to each field: one lemma for each field and update, so that no
later proof unfolds a record update. -/

namespace Sys2Proof.Machine

variable (s : State)

/-! ### `setIe` -/

@[simp] theorem State.setIe_cfg (b : Bool) : (s.setIe b).cfg = s.cfg := rfl
@[simp] theorem State.setIe_freq (b : Bool) : (s.setIe b).freq = s.freq := rfl
@[simp] theorem State.setIe_pin (b : Bool) : (s.setIe b).pin = s.pin := rfl
@[simp] theorem State.setIe_pinWritten (b : Bool) : (s.setIe b).pinWritten = s.pinWritten := rfl
@[simp] theorem State.setIe_ph (b : Bool) : (s.setIe b).ph = s.ph := rfl
@[simp] theorem State.setIe_aPin (b : Bool) : (s.setIe b).aPin = s.aPin := rfl
@[simp] theorem State.setIe_aFreq (b : Bool) : (s.setIe b).aFreq = s.aFreq := rfl
@[simp] theorem State.setIe_tK (b : Bool) : (s.setIe b).tK = s.tK := rfl
@[simp] theorem State.setIe_tSc (b : Bool) : (s.setIe b).tSc = s.tSc := rfl
@[simp] theorem State.setIe_ie (b : Bool) : (s.setIe b).ie = b := rfl
@[simp] theorem State.setIe_mp (b : Bool) : (s.setIe b).mp = s.mp := rfl
@[simp] theorem State.setIe_cmp (b : Bool) : (s.setIe b).cmp = s.cmp := rfl
@[simp] theorem State.setIe_tcr (b : Bool) : (s.setIe b).tcr = s.tcr := rfl
@[simp] theorem State.setIe_cnt (b : Bool) : (s.setIe b).cnt = s.cnt := rfl
@[simp] theorem State.setIe_psc (b : Bool) : (s.setIe b).psc = s.psc := rfl
@[simp] theorem State.setIe_dir (b : Bool) : (s.setIe b).dir = s.dir := rfl
@[simp] theorem State.setIe_lvl (b : Bool) : (s.setIe b).lvl = s.lvl := rfl
@[simp] theorem State.setIe_faults (b : Bool) : (s.setIe b).faults = s.faults := rfl
@[simp] theorem State.setIe_refusal (b : Bool) : (s.setIe b).refusal = s.refusal := rfl
@[simp] theorem State.setIe_history (b : Bool) : (s.setIe b).history = s.history := rfl
@[simp] theorem State.setIe_words (b : Bool) : (s.setIe b).words = s.words := rfl
@[simp] theorem State.setIe_sched (b : Bool) : (s.setIe b).sched = s.sched := rfl
@[simp] theorem State.setIe_turn (b : Bool) : (s.setIe b).turn = s.turn := rfl
@[simp] theorem State.setIe_recordedPin (b : Bool) : (s.setIe b).recordedPin = s.recordedPin := rfl

/-! ### `raiseMatch` -/

@[simp] theorem State.raiseMatch_cfg : s.raiseMatch.cfg = s.cfg := rfl
@[simp] theorem State.raiseMatch_freq : s.raiseMatch.freq = s.freq := rfl
@[simp] theorem State.raiseMatch_pin : s.raiseMatch.pin = s.pin := rfl
@[simp] theorem State.raiseMatch_pinWritten : s.raiseMatch.pinWritten = s.pinWritten := rfl
@[simp] theorem State.raiseMatch_ph : s.raiseMatch.ph = s.ph := rfl
@[simp] theorem State.raiseMatch_aPin : s.raiseMatch.aPin = s.aPin := rfl
@[simp] theorem State.raiseMatch_aFreq : s.raiseMatch.aFreq = s.aFreq := rfl
@[simp] theorem State.raiseMatch_tK : s.raiseMatch.tK = s.tK := rfl
@[simp] theorem State.raiseMatch_tSc : s.raiseMatch.tSc = s.tSc := rfl
@[simp] theorem State.raiseMatch_ie : s.raiseMatch.ie = s.ie := rfl
@[simp] theorem State.raiseMatch_mp : s.raiseMatch.mp = true := rfl
@[simp] theorem State.raiseMatch_cmp : s.raiseMatch.cmp = s.cmp := rfl
@[simp] theorem State.raiseMatch_tcr : s.raiseMatch.tcr = s.tcr := rfl
@[simp] theorem State.raiseMatch_cnt : s.raiseMatch.cnt = s.cnt := rfl
@[simp] theorem State.raiseMatch_psc : s.raiseMatch.psc = s.psc := rfl
@[simp] theorem State.raiseMatch_dir : s.raiseMatch.dir = s.dir := rfl
@[simp] theorem State.raiseMatch_lvl : s.raiseMatch.lvl = s.lvl := rfl
@[simp] theorem State.raiseMatch_faults : s.raiseMatch.faults = s.faults := rfl
@[simp] theorem State.raiseMatch_refusal : s.raiseMatch.refusal = s.refusal := rfl
@[simp] theorem State.raiseMatch_history : s.raiseMatch.history = s.history := rfl
@[simp] theorem State.raiseMatch_words : s.raiseMatch.words = s.words := rfl
@[simp] theorem State.raiseMatch_sched : s.raiseMatch.sched = s.sched := rfl
@[simp] theorem State.raiseMatch_turn : s.raiseMatch.turn = s.turn := rfl
@[simp] theorem State.raiseMatch_recordedPin : s.raiseMatch.recordedPin = s.recordedPin := rfl

/-! ### `clearMatch` -/

@[simp] theorem State.clearMatch_cfg : s.clearMatch.cfg = s.cfg := rfl
@[simp] theorem State.clearMatch_freq : s.clearMatch.freq = s.freq := rfl
@[simp] theorem State.clearMatch_pin : s.clearMatch.pin = s.pin := rfl
@[simp] theorem State.clearMatch_pinWritten : s.clearMatch.pinWritten = s.pinWritten := rfl
@[simp] theorem State.clearMatch_ph : s.clearMatch.ph = s.ph := rfl
@[simp] theorem State.clearMatch_aPin : s.clearMatch.aPin = s.aPin := rfl
@[simp] theorem State.clearMatch_aFreq : s.clearMatch.aFreq = s.aFreq := rfl
@[simp] theorem State.clearMatch_tK : s.clearMatch.tK = s.tK := rfl
@[simp] theorem State.clearMatch_tSc : s.clearMatch.tSc = s.tSc := rfl
@[simp] theorem State.clearMatch_ie : s.clearMatch.ie = s.ie := rfl
@[simp] theorem State.clearMatch_mp : s.clearMatch.mp = false := rfl
@[simp] theorem State.clearMatch_cmp : s.clearMatch.cmp = s.cmp := rfl
@[simp] theorem State.clearMatch_tcr : s.clearMatch.tcr = s.tcr := rfl
@[simp] theorem State.clearMatch_cnt : s.clearMatch.cnt = s.cnt := rfl
@[simp] theorem State.clearMatch_psc : s.clearMatch.psc = s.psc := rfl
@[simp] theorem State.clearMatch_dir : s.clearMatch.dir = s.dir := rfl
@[simp] theorem State.clearMatch_lvl : s.clearMatch.lvl = s.lvl := rfl
@[simp] theorem State.clearMatch_faults : s.clearMatch.faults = s.faults := rfl
@[simp] theorem State.clearMatch_refusal : s.clearMatch.refusal = s.refusal := rfl
@[simp] theorem State.clearMatch_history : s.clearMatch.history = s.history := rfl
@[simp] theorem State.clearMatch_words : s.clearMatch.words = s.words := rfl
@[simp] theorem State.clearMatch_sched : s.clearMatch.sched = s.sched := rfl
@[simp] theorem State.clearMatch_turn : s.clearMatch.turn = s.turn := rfl
@[simp] theorem State.clearMatch_recordedPin : s.clearMatch.recordedPin = s.recordedPin := rfl

/-! ### `goto` -/

@[simp] theorem State.goto_cfg (ph : Phase) : (s.goto ph).cfg = s.cfg := rfl
@[simp] theorem State.goto_freq (ph : Phase) : (s.goto ph).freq = s.freq := rfl
@[simp] theorem State.goto_pin (ph : Phase) : (s.goto ph).pin = s.pin := rfl
@[simp] theorem State.goto_pinWritten (ph : Phase) : (s.goto ph).pinWritten = s.pinWritten := rfl
@[simp] theorem State.goto_ph (ph : Phase) : (s.goto ph).ph = ph := rfl
@[simp] theorem State.goto_aPin (ph : Phase) : (s.goto ph).aPin = s.aPin := rfl
@[simp] theorem State.goto_aFreq (ph : Phase) : (s.goto ph).aFreq = s.aFreq := rfl
@[simp] theorem State.goto_tK (ph : Phase) : (s.goto ph).tK = s.tK := rfl
@[simp] theorem State.goto_tSc (ph : Phase) : (s.goto ph).tSc = s.tSc := rfl
@[simp] theorem State.goto_ie (ph : Phase) : (s.goto ph).ie = s.ie := rfl
@[simp] theorem State.goto_mp (ph : Phase) : (s.goto ph).mp = s.mp := rfl
@[simp] theorem State.goto_cmp (ph : Phase) : (s.goto ph).cmp = s.cmp := rfl
@[simp] theorem State.goto_tcr (ph : Phase) : (s.goto ph).tcr = s.tcr := rfl
@[simp] theorem State.goto_cnt (ph : Phase) : (s.goto ph).cnt = s.cnt := rfl
@[simp] theorem State.goto_psc (ph : Phase) : (s.goto ph).psc = s.psc := rfl
@[simp] theorem State.goto_dir (ph : Phase) : (s.goto ph).dir = s.dir := rfl
@[simp] theorem State.goto_lvl (ph : Phase) : (s.goto ph).lvl = s.lvl := rfl
@[simp] theorem State.goto_faults (ph : Phase) : (s.goto ph).faults = s.faults := rfl
@[simp] theorem State.goto_refusal (ph : Phase) : (s.goto ph).refusal = s.refusal := rfl
@[simp] theorem State.goto_history (ph : Phase) : (s.goto ph).history = s.history := rfl
@[simp] theorem State.goto_words (ph : Phase) : (s.goto ph).words = s.words := rfl
@[simp] theorem State.goto_sched (ph : Phase) : (s.goto ph).sched = s.sched := rfl
@[simp] theorem State.goto_turn (ph : Phase) : (s.goto ph).turn = s.turn := rfl
@[simp] theorem State.goto_recordedPin (ph : Phase) : (s.goto ph).recordedPin = s.recordedPin := rfl

/-! ### `record` -/

@[simp] theorem State.record_cfg (e : Event) : (s.record e).cfg = s.cfg := rfl
@[simp] theorem State.record_freq (e : Event) : (s.record e).freq = s.freq := rfl
@[simp] theorem State.record_pin (e : Event) : (s.record e).pin = s.pin := rfl
@[simp] theorem State.record_pinWritten (e : Event) : (s.record e).pinWritten = s.pinWritten := rfl
@[simp] theorem State.record_ph (e : Event) : (s.record e).ph = s.ph := rfl
@[simp] theorem State.record_aPin (e : Event) : (s.record e).aPin = s.aPin := rfl
@[simp] theorem State.record_aFreq (e : Event) : (s.record e).aFreq = s.aFreq := rfl
@[simp] theorem State.record_tK (e : Event) : (s.record e).tK = s.tK := rfl
@[simp] theorem State.record_tSc (e : Event) : (s.record e).tSc = s.tSc := rfl
@[simp] theorem State.record_ie (e : Event) : (s.record e).ie = s.ie := rfl
@[simp] theorem State.record_mp (e : Event) : (s.record e).mp = s.mp := rfl
@[simp] theorem State.record_cmp (e : Event) : (s.record e).cmp = s.cmp := rfl
@[simp] theorem State.record_tcr (e : Event) : (s.record e).tcr = s.tcr := rfl
@[simp] theorem State.record_cnt (e : Event) : (s.record e).cnt = s.cnt := rfl
@[simp] theorem State.record_psc (e : Event) : (s.record e).psc = s.psc := rfl
@[simp] theorem State.record_dir (e : Event) : (s.record e).dir = s.dir := rfl
@[simp] theorem State.record_lvl (e : Event) : (s.record e).lvl = s.lvl := rfl
@[simp] theorem State.record_faults (e : Event) : (s.record e).faults = s.faults := rfl
@[simp] theorem State.record_refusal (e : Event) : (s.record e).refusal = s.refusal := rfl
@[simp] theorem State.record_history (e : Event) : (s.record e).history = s.history ++ [e] := rfl
@[simp] theorem State.record_words (e : Event) : (s.record e).words = s.words := rfl
@[simp] theorem State.record_sched (e : Event) : (s.record e).sched = s.sched := rfl
@[simp] theorem State.record_turn (e : Event) : (s.record e).turn = s.turn := rfl
@[simp] theorem State.record_recordedPin (e : Event) : (s.record e).recordedPin = s.recordedPin := rfl

/-! ### `pinMode` -/

@[simp] theorem State.pinMode_cfg (p : PinIndex) : (s.pinMode p).cfg = s.cfg := rfl
@[simp] theorem State.pinMode_freq (p : PinIndex) : (s.pinMode p).freq = s.freq := rfl
@[simp] theorem State.pinMode_pin (p : PinIndex) : (s.pinMode p).pin = s.pin := rfl
@[simp] theorem State.pinMode_pinWritten (p : PinIndex) : (s.pinMode p).pinWritten = s.pinWritten := rfl
@[simp] theorem State.pinMode_ph (p : PinIndex) : (s.pinMode p).ph = s.ph := rfl
@[simp] theorem State.pinMode_aPin (p : PinIndex) : (s.pinMode p).aPin = s.aPin := rfl
@[simp] theorem State.pinMode_aFreq (p : PinIndex) : (s.pinMode p).aFreq = s.aFreq := rfl
@[simp] theorem State.pinMode_tK (p : PinIndex) : (s.pinMode p).tK = s.tK := rfl
@[simp] theorem State.pinMode_tSc (p : PinIndex) : (s.pinMode p).tSc = s.tSc := rfl
@[simp] theorem State.pinMode_ie (p : PinIndex) : (s.pinMode p).ie = s.ie := rfl
@[simp] theorem State.pinMode_mp (p : PinIndex) : (s.pinMode p).mp = s.mp := rfl
@[simp] theorem State.pinMode_cmp (p : PinIndex) : (s.pinMode p).cmp = s.cmp := rfl
@[simp] theorem State.pinMode_tcr (p : PinIndex) : (s.pinMode p).tcr = s.tcr := rfl
@[simp] theorem State.pinMode_cnt (p : PinIndex) : (s.pinMode p).cnt = s.cnt := rfl
@[simp] theorem State.pinMode_psc (p : PinIndex) : (s.pinMode p).psc = s.psc := rfl
@[simp] theorem State.pinMode_dir (p : PinIndex) : (s.pinMode p).dir = s.dir.set p.toNat true := rfl
@[simp] theorem State.pinMode_lvl (p : PinIndex) : (s.pinMode p).lvl = s.lvl := rfl
@[simp] theorem State.pinMode_faults (p : PinIndex) : (s.pinMode p).faults = s.faults := rfl
@[simp] theorem State.pinMode_refusal (p : PinIndex) : (s.pinMode p).refusal = s.refusal := rfl
@[simp] theorem State.pinMode_history (p : PinIndex) : (s.pinMode p).history = s.history ++ [.pinMode p] := rfl
@[simp] theorem State.pinMode_words (p : PinIndex) : (s.pinMode p).words = s.words := rfl
@[simp] theorem State.pinMode_sched (p : PinIndex) : (s.pinMode p).sched = s.sched := rfl
@[simp] theorem State.pinMode_turn (p : PinIndex) : (s.pinMode p).turn = s.turn := rfl
@[simp] theorem State.pinMode_recordedPin (p : PinIndex) : (s.pinMode p).recordedPin = s.recordedPin := rfl

/-! ### `pinWrite` -/

@[simp] theorem State.pinWrite_cfg (p : PinIndex) (v : Bool) : (s.pinWrite p v).cfg = s.cfg := rfl
@[simp] theorem State.pinWrite_freq (p : PinIndex) (v : Bool) : (s.pinWrite p v).freq = s.freq := rfl
@[simp] theorem State.pinWrite_pin (p : PinIndex) (v : Bool) : (s.pinWrite p v).pin = s.pin := rfl
@[simp] theorem State.pinWrite_pinWritten (p : PinIndex) (v : Bool) : (s.pinWrite p v).pinWritten = s.pinWritten := rfl
@[simp] theorem State.pinWrite_ph (p : PinIndex) (v : Bool) : (s.pinWrite p v).ph = s.ph := rfl
@[simp] theorem State.pinWrite_aPin (p : PinIndex) (v : Bool) : (s.pinWrite p v).aPin = s.aPin := rfl
@[simp] theorem State.pinWrite_aFreq (p : PinIndex) (v : Bool) : (s.pinWrite p v).aFreq = s.aFreq := rfl
@[simp] theorem State.pinWrite_tK (p : PinIndex) (v : Bool) : (s.pinWrite p v).tK = s.tK := rfl
@[simp] theorem State.pinWrite_tSc (p : PinIndex) (v : Bool) : (s.pinWrite p v).tSc = s.tSc := rfl
@[simp] theorem State.pinWrite_ie (p : PinIndex) (v : Bool) : (s.pinWrite p v).ie = s.ie := rfl
@[simp] theorem State.pinWrite_mp (p : PinIndex) (v : Bool) : (s.pinWrite p v).mp = s.mp := rfl
@[simp] theorem State.pinWrite_cmp (p : PinIndex) (v : Bool) : (s.pinWrite p v).cmp = s.cmp := rfl
@[simp] theorem State.pinWrite_tcr (p : PinIndex) (v : Bool) : (s.pinWrite p v).tcr = s.tcr := rfl
@[simp] theorem State.pinWrite_cnt (p : PinIndex) (v : Bool) : (s.pinWrite p v).cnt = s.cnt := rfl
@[simp] theorem State.pinWrite_psc (p : PinIndex) (v : Bool) : (s.pinWrite p v).psc = s.psc := rfl
@[simp] theorem State.pinWrite_dir (p : PinIndex) (v : Bool) : (s.pinWrite p v).dir = s.dir := rfl
@[simp] theorem State.pinWrite_lvl (p : PinIndex) (v : Bool) : (s.pinWrite p v).lvl = s.lvl.set p.toNat v := rfl
@[simp] theorem State.pinWrite_faults (p : PinIndex) (v : Bool) : (s.pinWrite p v).faults = s.faults := rfl
@[simp] theorem State.pinWrite_refusal (p : PinIndex) (v : Bool) : (s.pinWrite p v).refusal = s.refusal := rfl
@[simp] theorem State.pinWrite_history (p : PinIndex) (v : Bool) : (s.pinWrite p v).history = s.history ++ [.pinWrite p v] := rfl
@[simp] theorem State.pinWrite_words (p : PinIndex) (v : Bool) : (s.pinWrite p v).words = s.words := rfl
@[simp] theorem State.pinWrite_sched (p : PinIndex) (v : Bool) : (s.pinWrite p v).sched = s.sched := rfl
@[simp] theorem State.pinWrite_turn (p : PinIndex) (v : Bool) : (s.pinWrite p v).turn = s.turn := rfl
@[simp] theorem State.pinWrite_recordedPin (p : PinIndex) (v : Bool) : (s.pinWrite p v).recordedPin = s.recordedPin := rfl

/-! ### `pinToggle` -/

@[simp] theorem State.pinToggle_cfg (p : PinIndex) : (s.pinToggle p).cfg = s.cfg := rfl
@[simp] theorem State.pinToggle_freq (p : PinIndex) : (s.pinToggle p).freq = s.freq := rfl
@[simp] theorem State.pinToggle_pin (p : PinIndex) : (s.pinToggle p).pin = s.pin := rfl
@[simp] theorem State.pinToggle_pinWritten (p : PinIndex) : (s.pinToggle p).pinWritten = s.pinWritten := rfl
@[simp] theorem State.pinToggle_ph (p : PinIndex) : (s.pinToggle p).ph = s.ph := rfl
@[simp] theorem State.pinToggle_aPin (p : PinIndex) : (s.pinToggle p).aPin = s.aPin := rfl
@[simp] theorem State.pinToggle_aFreq (p : PinIndex) : (s.pinToggle p).aFreq = s.aFreq := rfl
@[simp] theorem State.pinToggle_tK (p : PinIndex) : (s.pinToggle p).tK = s.tK := rfl
@[simp] theorem State.pinToggle_tSc (p : PinIndex) : (s.pinToggle p).tSc = s.tSc := rfl
@[simp] theorem State.pinToggle_ie (p : PinIndex) : (s.pinToggle p).ie = s.ie := rfl
@[simp] theorem State.pinToggle_mp (p : PinIndex) : (s.pinToggle p).mp = s.mp := rfl
@[simp] theorem State.pinToggle_cmp (p : PinIndex) : (s.pinToggle p).cmp = s.cmp := rfl
@[simp] theorem State.pinToggle_tcr (p : PinIndex) : (s.pinToggle p).tcr = s.tcr := rfl
@[simp] theorem State.pinToggle_cnt (p : PinIndex) : (s.pinToggle p).cnt = s.cnt := rfl
@[simp] theorem State.pinToggle_psc (p : PinIndex) : (s.pinToggle p).psc = s.psc := rfl
@[simp] theorem State.pinToggle_dir (p : PinIndex) : (s.pinToggle p).dir = s.dir := rfl
@[simp] theorem State.pinToggle_lvl (p : PinIndex) : (s.pinToggle p).lvl = s.lvl.modify p.toNat not := rfl
@[simp] theorem State.pinToggle_faults (p : PinIndex) : (s.pinToggle p).faults = s.faults := rfl
@[simp] theorem State.pinToggle_refusal (p : PinIndex) : (s.pinToggle p).refusal = s.refusal := rfl
@[simp] theorem State.pinToggle_history (p : PinIndex) : (s.pinToggle p).history = s.history ++ [.pinToggle p] := rfl
@[simp] theorem State.pinToggle_words (p : PinIndex) : (s.pinToggle p).words = s.words := rfl
@[simp] theorem State.pinToggle_sched (p : PinIndex) : (s.pinToggle p).sched = s.sched := rfl
@[simp] theorem State.pinToggle_turn (p : PinIndex) : (s.pinToggle p).turn = s.turn := rfl
@[simp] theorem State.pinToggle_recordedPin (p : PinIndex) : (s.pinToggle p).recordedPin = s.recordedPin := rfl

/-! ### `writeCmp` -/

@[simp] theorem State.writeCmp_cfg (v : TimerReg) : (s.writeCmp v).cfg = s.cfg := rfl
@[simp] theorem State.writeCmp_freq (v : TimerReg) : (s.writeCmp v).freq = s.freq := rfl
@[simp] theorem State.writeCmp_pin (v : TimerReg) : (s.writeCmp v).pin = s.pin := rfl
@[simp] theorem State.writeCmp_pinWritten (v : TimerReg) : (s.writeCmp v).pinWritten = s.pinWritten := rfl
@[simp] theorem State.writeCmp_ph (v : TimerReg) : (s.writeCmp v).ph = s.ph := rfl
@[simp] theorem State.writeCmp_aPin (v : TimerReg) : (s.writeCmp v).aPin = s.aPin := rfl
@[simp] theorem State.writeCmp_aFreq (v : TimerReg) : (s.writeCmp v).aFreq = s.aFreq := rfl
@[simp] theorem State.writeCmp_tK (v : TimerReg) : (s.writeCmp v).tK = s.tK := rfl
@[simp] theorem State.writeCmp_tSc (v : TimerReg) : (s.writeCmp v).tSc = s.tSc := rfl
@[simp] theorem State.writeCmp_ie (v : TimerReg) : (s.writeCmp v).ie = s.ie := rfl
@[simp] theorem State.writeCmp_mp (v : TimerReg) : (s.writeCmp v).mp = s.mp := rfl
@[simp] theorem State.writeCmp_cmp (v : TimerReg) : (s.writeCmp v).cmp = v := rfl
@[simp] theorem State.writeCmp_tcr (v : TimerReg) : (s.writeCmp v).tcr = s.tcr := rfl
@[simp] theorem State.writeCmp_cnt (v : TimerReg) : (s.writeCmp v).cnt = s.cnt := rfl
@[simp] theorem State.writeCmp_psc (v : TimerReg) : (s.writeCmp v).psc = s.psc := rfl
@[simp] theorem State.writeCmp_dir (v : TimerReg) : (s.writeCmp v).dir = s.dir := rfl
@[simp] theorem State.writeCmp_lvl (v : TimerReg) : (s.writeCmp v).lvl = s.lvl := rfl
@[simp] theorem State.writeCmp_faults (v : TimerReg) : (s.writeCmp v).faults = s.faults := rfl
@[simp] theorem State.writeCmp_refusal (v : TimerReg) : (s.writeCmp v).refusal = s.refusal := rfl
@[simp] theorem State.writeCmp_history (v : TimerReg) : (s.writeCmp v).history = s.history ++ [.cmpWrite v] := rfl
@[simp] theorem State.writeCmp_words (v : TimerReg) : (s.writeCmp v).words = s.words := rfl
@[simp] theorem State.writeCmp_sched (v : TimerReg) : (s.writeCmp v).sched = s.sched := rfl
@[simp] theorem State.writeCmp_turn (v : TimerReg) : (s.writeCmp v).turn = s.turn := rfl
@[simp] theorem State.writeCmp_recordedPin (v : TimerReg) : (s.writeCmp v).recordedPin = s.recordedPin := rfl

/-! ### `writeTcr` -/

@[simp] theorem State.writeTcr_cfg (v : TimerReg) : (s.writeTcr v).cfg = s.cfg := rfl
@[simp] theorem State.writeTcr_freq (v : TimerReg) : (s.writeTcr v).freq = s.freq := rfl
@[simp] theorem State.writeTcr_pin (v : TimerReg) : (s.writeTcr v).pin = s.pin := rfl
@[simp] theorem State.writeTcr_pinWritten (v : TimerReg) : (s.writeTcr v).pinWritten = s.pinWritten := rfl
@[simp] theorem State.writeTcr_ph (v : TimerReg) : (s.writeTcr v).ph = s.ph := rfl
@[simp] theorem State.writeTcr_aPin (v : TimerReg) : (s.writeTcr v).aPin = s.aPin := rfl
@[simp] theorem State.writeTcr_aFreq (v : TimerReg) : (s.writeTcr v).aFreq = s.aFreq := rfl
@[simp] theorem State.writeTcr_tK (v : TimerReg) : (s.writeTcr v).tK = s.tK := rfl
@[simp] theorem State.writeTcr_tSc (v : TimerReg) : (s.writeTcr v).tSc = s.tSc := rfl
@[simp] theorem State.writeTcr_ie (v : TimerReg) : (s.writeTcr v).ie = s.ie := rfl
@[simp] theorem State.writeTcr_mp (v : TimerReg) : (s.writeTcr v).mp = s.mp := rfl
@[simp] theorem State.writeTcr_cmp (v : TimerReg) : (s.writeTcr v).cmp = s.cmp := rfl
@[simp] theorem State.writeTcr_tcr (v : TimerReg) : (s.writeTcr v).tcr = v := rfl
@[simp] theorem State.writeTcr_cnt (v : TimerReg) : (s.writeTcr v).cnt = s.cnt := rfl
@[simp] theorem State.writeTcr_psc (v : TimerReg) : (s.writeTcr v).psc = s.psc := rfl
@[simp] theorem State.writeTcr_dir (v : TimerReg) : (s.writeTcr v).dir = s.dir := rfl
@[simp] theorem State.writeTcr_lvl (v : TimerReg) : (s.writeTcr v).lvl = s.lvl := rfl
@[simp] theorem State.writeTcr_faults (v : TimerReg) : (s.writeTcr v).faults = s.faults := rfl
@[simp] theorem State.writeTcr_refusal (v : TimerReg) : (s.writeTcr v).refusal = s.refusal := rfl
@[simp] theorem State.writeTcr_history (v : TimerReg) : (s.writeTcr v).history = s.history ++ [.tcrWrite v] := rfl
@[simp] theorem State.writeTcr_words (v : TimerReg) : (s.writeTcr v).words = s.words := rfl
@[simp] theorem State.writeTcr_sched (v : TimerReg) : (s.writeTcr v).sched = s.sched := rfl
@[simp] theorem State.writeTcr_turn (v : TimerReg) : (s.writeTcr v).turn = s.turn := rfl
@[simp] theorem State.writeTcr_recordedPin (v : TimerReg) : (s.writeTcr v).recordedPin = s.recordedPin := rfl

/-! ### `recordPin` -/

@[simp] theorem State.recordPin_cfg (p : PinIndex) : (s.recordPin p).cfg = s.cfg := rfl
@[simp] theorem State.recordPin_freq (p : PinIndex) : (s.recordPin p).freq = s.freq := rfl
@[simp] theorem State.recordPin_pin (p : PinIndex) : (s.recordPin p).pin = p := rfl
@[simp] theorem State.recordPin_pinWritten (p : PinIndex) : (s.recordPin p).pinWritten = true := rfl
@[simp] theorem State.recordPin_ph (p : PinIndex) : (s.recordPin p).ph = s.ph := rfl
@[simp] theorem State.recordPin_aPin (p : PinIndex) : (s.recordPin p).aPin = s.aPin := rfl
@[simp] theorem State.recordPin_aFreq (p : PinIndex) : (s.recordPin p).aFreq = s.aFreq := rfl
@[simp] theorem State.recordPin_tK (p : PinIndex) : (s.recordPin p).tK = s.tK := rfl
@[simp] theorem State.recordPin_tSc (p : PinIndex) : (s.recordPin p).tSc = s.tSc := rfl
@[simp] theorem State.recordPin_ie (p : PinIndex) : (s.recordPin p).ie = s.ie := rfl
@[simp] theorem State.recordPin_mp (p : PinIndex) : (s.recordPin p).mp = s.mp := rfl
@[simp] theorem State.recordPin_cmp (p : PinIndex) : (s.recordPin p).cmp = s.cmp := rfl
@[simp] theorem State.recordPin_tcr (p : PinIndex) : (s.recordPin p).tcr = s.tcr := rfl
@[simp] theorem State.recordPin_cnt (p : PinIndex) : (s.recordPin p).cnt = s.cnt := rfl
@[simp] theorem State.recordPin_psc (p : PinIndex) : (s.recordPin p).psc = s.psc := rfl
@[simp] theorem State.recordPin_dir (p : PinIndex) : (s.recordPin p).dir = s.dir := rfl
@[simp] theorem State.recordPin_lvl (p : PinIndex) : (s.recordPin p).lvl = s.lvl := rfl
@[simp] theorem State.recordPin_faults (p : PinIndex) : (s.recordPin p).faults = s.faults := rfl
@[simp] theorem State.recordPin_refusal (p : PinIndex) : (s.recordPin p).refusal = s.refusal := rfl
@[simp] theorem State.recordPin_history (p : PinIndex) : (s.recordPin p).history = s.history := rfl
@[simp] theorem State.recordPin_words (p : PinIndex) : (s.recordPin p).words = s.words := rfl
@[simp] theorem State.recordPin_sched (p : PinIndex) : (s.recordPin p).sched = s.sched := rfl
@[simp] theorem State.recordPin_turn (p : PinIndex) : (s.recordPin p).turn = s.turn := rfl
@[simp] theorem State.recordPin_recordedPin (p : PinIndex) : (s.recordPin p).recordedPin = some p := rfl

/-! ### `latchPin` -/

@[simp] theorem State.latchPin_cfg (p : PinIndex) : (s.latchPin p).cfg = s.cfg := rfl
@[simp] theorem State.latchPin_freq (p : PinIndex) : (s.latchPin p).freq = s.freq := rfl
@[simp] theorem State.latchPin_pin (p : PinIndex) : (s.latchPin p).pin = s.pin := rfl
@[simp] theorem State.latchPin_pinWritten (p : PinIndex) : (s.latchPin p).pinWritten = s.pinWritten := rfl
@[simp] theorem State.latchPin_ph (p : PinIndex) : (s.latchPin p).ph = s.ph := rfl
@[simp] theorem State.latchPin_aPin (p : PinIndex) : (s.latchPin p).aPin = p := rfl
@[simp] theorem State.latchPin_aFreq (p : PinIndex) : (s.latchPin p).aFreq = s.aFreq := rfl
@[simp] theorem State.latchPin_tK (p : PinIndex) : (s.latchPin p).tK = s.tK := rfl
@[simp] theorem State.latchPin_tSc (p : PinIndex) : (s.latchPin p).tSc = s.tSc := rfl
@[simp] theorem State.latchPin_ie (p : PinIndex) : (s.latchPin p).ie = s.ie := rfl
@[simp] theorem State.latchPin_mp (p : PinIndex) : (s.latchPin p).mp = s.mp := rfl
@[simp] theorem State.latchPin_cmp (p : PinIndex) : (s.latchPin p).cmp = s.cmp := rfl
@[simp] theorem State.latchPin_tcr (p : PinIndex) : (s.latchPin p).tcr = s.tcr := rfl
@[simp] theorem State.latchPin_cnt (p : PinIndex) : (s.latchPin p).cnt = s.cnt := rfl
@[simp] theorem State.latchPin_psc (p : PinIndex) : (s.latchPin p).psc = s.psc := rfl
@[simp] theorem State.latchPin_dir (p : PinIndex) : (s.latchPin p).dir = s.dir := rfl
@[simp] theorem State.latchPin_lvl (p : PinIndex) : (s.latchPin p).lvl = s.lvl := rfl
@[simp] theorem State.latchPin_faults (p : PinIndex) : (s.latchPin p).faults = s.faults := rfl
@[simp] theorem State.latchPin_refusal (p : PinIndex) : (s.latchPin p).refusal = s.refusal := rfl
@[simp] theorem State.latchPin_history (p : PinIndex) : (s.latchPin p).history = s.history := rfl
@[simp] theorem State.latchPin_words (p : PinIndex) : (s.latchPin p).words = s.words := rfl
@[simp] theorem State.latchPin_sched (p : PinIndex) : (s.latchPin p).sched = s.sched := rfl
@[simp] theorem State.latchPin_turn (p : PinIndex) : (s.latchPin p).turn = s.turn := rfl
@[simp] theorem State.latchPin_recordedPin (p : PinIndex) : (s.latchPin p).recordedPin = s.recordedPin := rfl

/-! ### `latchFreq` -/

@[simp] theorem State.latchFreq_cfg (f : Hertz) : (s.latchFreq f).cfg = s.cfg := rfl
@[simp] theorem State.latchFreq_freq (f : Hertz) : (s.latchFreq f).freq = s.freq := rfl
@[simp] theorem State.latchFreq_pin (f : Hertz) : (s.latchFreq f).pin = s.pin := rfl
@[simp] theorem State.latchFreq_pinWritten (f : Hertz) : (s.latchFreq f).pinWritten = s.pinWritten := rfl
@[simp] theorem State.latchFreq_ph (f : Hertz) : (s.latchFreq f).ph = s.ph := rfl
@[simp] theorem State.latchFreq_aPin (f : Hertz) : (s.latchFreq f).aPin = s.aPin := rfl
@[simp] theorem State.latchFreq_aFreq (f : Hertz) : (s.latchFreq f).aFreq = f := rfl
@[simp] theorem State.latchFreq_tK (f : Hertz) : (s.latchFreq f).tK = s.tK := rfl
@[simp] theorem State.latchFreq_tSc (f : Hertz) : (s.latchFreq f).tSc = s.tSc := rfl
@[simp] theorem State.latchFreq_ie (f : Hertz) : (s.latchFreq f).ie = s.ie := rfl
@[simp] theorem State.latchFreq_mp (f : Hertz) : (s.latchFreq f).mp = s.mp := rfl
@[simp] theorem State.latchFreq_cmp (f : Hertz) : (s.latchFreq f).cmp = s.cmp := rfl
@[simp] theorem State.latchFreq_tcr (f : Hertz) : (s.latchFreq f).tcr = s.tcr := rfl
@[simp] theorem State.latchFreq_cnt (f : Hertz) : (s.latchFreq f).cnt = s.cnt := rfl
@[simp] theorem State.latchFreq_psc (f : Hertz) : (s.latchFreq f).psc = s.psc := rfl
@[simp] theorem State.latchFreq_dir (f : Hertz) : (s.latchFreq f).dir = s.dir := rfl
@[simp] theorem State.latchFreq_lvl (f : Hertz) : (s.latchFreq f).lvl = s.lvl := rfl
@[simp] theorem State.latchFreq_faults (f : Hertz) : (s.latchFreq f).faults = s.faults := rfl
@[simp] theorem State.latchFreq_refusal (f : Hertz) : (s.latchFreq f).refusal = s.refusal := rfl
@[simp] theorem State.latchFreq_history (f : Hertz) : (s.latchFreq f).history = s.history := rfl
@[simp] theorem State.latchFreq_words (f : Hertz) : (s.latchFreq f).words = s.words := rfl
@[simp] theorem State.latchFreq_sched (f : Hertz) : (s.latchFreq f).sched = s.sched := rfl
@[simp] theorem State.latchFreq_turn (f : Hertz) : (s.latchFreq f).turn = s.turn := rfl
@[simp] theorem State.latchFreq_recordedPin (f : Hertz) : (s.latchFreq f).recordedPin = s.recordedPin := rfl

/-! ### `spendTurn`: the model's own turn bookkeeping, and nothing else -/

@[simp] theorem spendTurn_cfg : (spendTurn s).cfg = s.cfg := by
  unfold spendTurn; split <;> rfl
@[simp] theorem spendTurn_freq : (spendTurn s).freq = s.freq := by
  unfold spendTurn; split <;> rfl
@[simp] theorem spendTurn_pin : (spendTurn s).pin = s.pin := by
  unfold spendTurn; split <;> rfl
@[simp] theorem spendTurn_pinWritten : (spendTurn s).pinWritten = s.pinWritten := by
  unfold spendTurn; split <;> rfl
@[simp] theorem spendTurn_ph : (spendTurn s).ph = s.ph := by
  unfold spendTurn; split <;> rfl
@[simp] theorem spendTurn_aPin : (spendTurn s).aPin = s.aPin := by
  unfold spendTurn; split <;> rfl
@[simp] theorem spendTurn_aFreq : (spendTurn s).aFreq = s.aFreq := by
  unfold spendTurn; split <;> rfl
@[simp] theorem spendTurn_tK : (spendTurn s).tK = s.tK := by
  unfold spendTurn; split <;> rfl
@[simp] theorem spendTurn_tSc : (spendTurn s).tSc = s.tSc := by
  unfold spendTurn; split <;> rfl
@[simp] theorem spendTurn_ie : (spendTurn s).ie = s.ie := by
  unfold spendTurn; split <;> rfl
@[simp] theorem spendTurn_mp : (spendTurn s).mp = s.mp := by
  unfold spendTurn; split <;> rfl
@[simp] theorem spendTurn_cmp : (spendTurn s).cmp = s.cmp := by
  unfold spendTurn; split <;> rfl
@[simp] theorem spendTurn_tcr : (spendTurn s).tcr = s.tcr := by
  unfold spendTurn; split <;> rfl
@[simp] theorem spendTurn_cnt : (spendTurn s).cnt = s.cnt := by
  unfold spendTurn; split <;> rfl
@[simp] theorem spendTurn_psc : (spendTurn s).psc = s.psc := by
  unfold spendTurn; split <;> rfl
@[simp] theorem spendTurn_dir : (spendTurn s).dir = s.dir := by
  unfold spendTurn; split <;> rfl
@[simp] theorem spendTurn_lvl : (spendTurn s).lvl = s.lvl := by
  unfold spendTurn; split <;> rfl
@[simp] theorem spendTurn_faults : (spendTurn s).faults = s.faults := by
  unfold spendTurn; split <;> rfl
@[simp] theorem spendTurn_refusal : (spendTurn s).refusal = s.refusal := by
  unfold spendTurn; split <;> rfl
@[simp] theorem spendTurn_history : (spendTurn s).history = s.history := by
  unfold spendTurn; split <;> rfl
@[simp] theorem spendTurn_words : (spendTurn s).words = s.words := by
  unfold spendTurn; split <;> rfl

/-! ### `tick`: only `PSC`, `CNT` and `MP` (R150) -/

@[simp] theorem tick_cfg : (tick s).cfg = s.cfg := by
  unfold tick counterStep; split <;> [split; skip] <;> rfl
@[simp] theorem tick_freq : (tick s).freq = s.freq := by
  unfold tick counterStep; split <;> [split; skip] <;> rfl
@[simp] theorem tick_pin : (tick s).pin = s.pin := by
  unfold tick counterStep; split <;> [split; skip] <;> rfl
@[simp] theorem tick_pinWritten : (tick s).pinWritten = s.pinWritten := by
  unfold tick counterStep; split <;> [split; skip] <;> rfl
@[simp] theorem tick_ph : (tick s).ph = s.ph := by
  unfold tick counterStep; split <;> [split; skip] <;> rfl
@[simp] theorem tick_aPin : (tick s).aPin = s.aPin := by
  unfold tick counterStep; split <;> [split; skip] <;> rfl
@[simp] theorem tick_aFreq : (tick s).aFreq = s.aFreq := by
  unfold tick counterStep; split <;> [split; skip] <;> rfl
@[simp] theorem tick_tK : (tick s).tK = s.tK := by
  unfold tick counterStep; split <;> [split; skip] <;> rfl
@[simp] theorem tick_tSc : (tick s).tSc = s.tSc := by
  unfold tick counterStep; split <;> [split; skip] <;> rfl
@[simp] theorem tick_ie : (tick s).ie = s.ie := by
  unfold tick counterStep; split <;> [split; skip] <;> rfl
@[simp] theorem tick_cmp : (tick s).cmp = s.cmp := by
  unfold tick counterStep; split <;> [split; skip] <;> rfl
@[simp] theorem tick_tcr : (tick s).tcr = s.tcr := by
  unfold tick counterStep; split <;> [split; skip] <;> rfl
@[simp] theorem tick_dir : (tick s).dir = s.dir := by
  unfold tick counterStep; split <;> [split; skip] <;> rfl
@[simp] theorem tick_lvl : (tick s).lvl = s.lvl := by
  unfold tick counterStep; split <;> [split; skip] <;> rfl
@[simp] theorem tick_faults : (tick s).faults = s.faults := by
  unfold tick counterStep; split <;> [split; skip] <;> rfl
@[simp] theorem tick_refusal : (tick s).refusal = s.refusal := by
  unfold tick counterStep; split <;> [split; skip] <;> rfl
@[simp] theorem tick_history : (tick s).history = s.history := by
  unfold tick counterStep; split <;> [split; skip] <;> rfl
@[simp] theorem tick_words : (tick s).words = s.words := by
  unfold tick counterStep; split <;> [split; skip] <;> rfl
@[simp] theorem tick_sched : (tick s).sched = s.sched := by
  unfold tick counterStep; split <;> [split; skip] <;> rfl
@[simp] theorem tick_turn : (tick s).turn = s.turn := by
  unfold tick counterStep; split <;> [split; skip] <;> rfl

/-! ### `recordedPin`: the spec's `PIN`, in terms of the two fields (R22) -/

@[simp] theorem recordedPin_eq_some {s : State} {p : PinIndex} :
    s.recordedPin = some p ↔ s.pinWritten = true ∧ s.pin = p := by
  unfold State.recordedPin; split <;> simp_all

@[simp] theorem recordedPin_eq_none {s : State} : s.recordedPin = none ↔ s.pinWritten = false := by
  unfold State.recordedPin; split <;> simp_all

@[simp] theorem spendTurn_recordedPin : (spendTurn s).recordedPin = s.recordedPin := by simp [State.recordedPin]

@[simp] theorem tick_recordedPin : (tick s).recordedPin = s.recordedPin := by simp [State.recordedPin]

end Sys2Proof.Machine
end

