-- ==== Sys2Proof/Laws/Ops.lean ====
section
/-! SUPPORT. What each shared operation and each command can do: one lemma each, which says every case. -/

namespace Sys2Proof.Machine

/-! ### Reading `PIN` -/

theorem withPin_some {s : State} {p : PinIndex} (h : s.recordedPin = some p) (k : PinIndex → StepOutcome) :
    withPin s k = k p := by
  obtain ⟨hw, rfl⟩ := recordedPin_eq_some.1 h
  simp [withPin, hw]

theorem withPin_none {s : State} (h : s.recordedPin = none) (k : PinIndex → StepOutcome) :
    withPin s k = .fault .pinUnwritten := by
  simp [withPin, recordedPin_eq_none.1 h]

theorem withPin_next {s t : State} {k : PinIndex → StepOutcome} (h : withPin s k = .next t) :
    ∃ p, s.recordedPin = some p ∧ k p = .next t := by
  cases hp : s.recordedPin with
  | none => rw [withPin_none hp] at h; cases h
  | some p => exact ⟨p, rfl, by rwa [withPin_some hp] at h⟩

/-! ### The pin bank keeps its size, and an operation touches one entry -/

theorem pinMode_dir_length (s : State) (p : PinIndex) : (s.pinMode p).dir.length = s.dir.length := by simp

theorem pinWrite_lvl_length (s : State) (p : PinIndex) (v : Bool) :
    (s.pinWrite p v).lvl.length = s.lvl.length := by simp

theorem pinToggle_lvl_length (s : State) (p : PinIndex) : (s.pinToggle p).lvl.length = s.lvl.length := by simp

theorem pinMode_dir_of_ne (s : State) (p : PinIndex) {q : Nat} (h : q ≠ p.toNat) :
    (s.pinMode p).dir[q]? = s.dir[q]? := by simp [Ne.symm h]

theorem pinWrite_lvl_of_ne (s : State) (p : PinIndex) (v : Bool) {q : Nat} (h : q ≠ p.toNat) :
    (s.pinWrite p v).lvl[q]? = s.lvl[q]? := by simp [Ne.symm h]

theorem pinToggle_lvl_of_ne (s : State) (p : PinIndex) {q : Nat} (h : q ≠ p.toNat) :
    (s.pinToggle p).lvl[q]? = s.lvl[q]? := by simp [Ne.symm h]

/-! ### The commands -/

/-- An ACCEPT that answers a next state writes the latches and `PH` and nothing else. -/
theorem exec_idle {i : Instr} {s t : State} (hi : s.ph = .idle) (h : exec i s = .next t) :
    (i = .init ∧ t = s.goto .init1) ∨
    (∃ p f, i = .settone p f ∧ settoneFault? s.cfg p f = none ∧
      t = ((s.latchPin p).latchFreq f).goto .set1) ∨
    (∃ p, i = .stoptone p ∧ t = (s.latchPin p).goto .stop1) := by
  cases i with
  | init =>
    simp only [exec, execInit, hi, acceptInit] at h
    exact .inl ⟨rfl, (Host.Outcome.next.inj h).symm⟩
  | settone p f =>
    simp only [exec, execSettone, hi, acceptSettone] at h
    split at h
    · cases h
    · exact .inr (.inl ⟨p, f, rfl, ‹_›, (Host.Outcome.next.inj h).symm⟩)
  | stoptone p =>
    simp only [exec, execStoptone, hi, acceptStoptone] at h
    exact .inr (.inr ⟨p, rfl, (Host.Outcome.next.inj h).symm⟩)

/-- One micro-step of the sequencer, as the table of R122 lists them: the cases of a next state. -/
inductive MicroStep : State → State → Prop where
  | init1 {s} : s.ph = .init1 → MicroStep s ({ s with freq := 0 }.goto .idle)
  | set1Long {s} : s.ph = .set1 → s.aFreq ≠ s.freq → MicroStep s ((s.recordPin s.aPin).goto .set2aMode)
  | set1Short {s} : s.ph = .set1 → s.aFreq = s.freq → MicroStep s ((s.recordPin s.aPin).goto .set3)
  | set2aMode {s p} : s.ph = .set2aMode → s.recordedPin = some p → MicroStep s ((s.pinMode p).goto .set2aLow)
  | set2aLow {s p} : s.ph = .set2aLow → s.recordedPin = some p → MicroStep s ((s.pinWrite p false).goto .set2b)
  | set2b {s} : s.ph = .set2b → MicroStep s ({ s with freq := s.aFreq }.goto .set2c)
  | set2c {s k sc} : s.ph = .set2c → toneCalc s.cfg s.freq = .ok (k, sc) →
      MicroStep s ({ s with tK := k, tSc := sc }.goto .set2d)
  | set2d {s} : s.ph = .set2d → MicroStep s ((s.setIe false).goto .set2eCmp)
  | set2eCmp {s} : s.ph = .set2eCmp → MicroStep s ((s.writeCmp (compareValue s.tSc)).goto .set2eTcr)
  | set2eTcr {s} : s.ph = .set2eTcr → MicroStep s ((s.writeTcr (controlValue s.tK)).goto .set3)
  | set3 {s} : s.ph = .set3 → MicroStep s ((s.setIe true).goto .idle)
  | stop1 {s} : s.ph = .stop1 → MicroStep s ((s.setIe false).goto .stop2)
  | stop2 {s p} : s.ph = .stop2 → s.recordedPin = some p → MicroStep s ((s.pinWrite p false).goto .idle)

theorem seqStep_next {s t : State} (hb : s.ph ≠ .idle) (h : seqStep s = .next t) : MicroStep s t := by
  unfold seqStep inProgress at h
  cases hp : s.ph <;> rw [hp] at h <;> simp only [exec, execInit, execSettone, execStoptone, hp] at h
  case idle => exact absurd hp hb
  case init1 => cases h; exact .init1 hp
  case set1 =>
    cases h
    by_cases hf : s.aFreq = s.freq
    · rw [if_neg (by simpa using hf)]; exact .set1Short hp hf
    · rw [if_pos hf]; exact .set1Long hp hf
  case set2aMode => obtain ⟨p, hpin, h⟩ := withPin_next h; cases h; exact .set2aMode hp hpin
  case set2aLow => obtain ⟨p, hpin, h⟩ := withPin_next h; cases h; exact .set2aLow hp hpin
  case set2b => cases h; exact .set2b hp
  case set2c =>
    unfold phaseSet2c at h
    split at h
    · cases h
    · cases h; exact .set2c hp ‹_›
  case set2d => cases h; exact .set2d hp
  case set2eCmp => cases h; exact .set2eCmp hp
  case set2eTcr => cases h; exact .set2eTcr hp
  case set3 => cases h; exact .set3 hp
  case stop1 => cases h; exact .stop1 hp
  case stop2 => obtain ⟨p, hpin, h⟩ := withPin_next h; cases h; exact .stop2 hp hpin

/-- A command answers a next state only by an ACCEPT, by a micro-step of its own, or by waiting. -/
theorem exec_next {i : Instr} {s t : State} (h : exec i s = .next t) :
    (s.ph = .idle ∧ t.ph ≠ .idle) ∨ MicroStep s t ∨ (s.ph ≠ .idle ∧ t = s) := by
  by_cases hi : s.ph = .idle
  · refine .inl ⟨hi, ?_⟩
    rcases exec_idle hi h with ⟨-, rfl⟩ | ⟨p, f, -, -, rfl⟩ | ⟨p, -, rfl⟩ <;> simp
  · refine .inr ?_
    have seq : seqStep s = .next t → MicroStep s t := seqStep_next hi
    unfold seqStep inProgress at seq
    cases i <;> cases hp : s.ph <;> rw [hp] at seq <;>
      simp only [exec, execInit, execSettone, execStoptone, hp] at h seq <;>
      first
        | exact absurd hp hi
        | exact .inl (seq h)
        | exact .inr ⟨hi, (Host.Outcome.next.inj h).symm⟩
        | (cases h; exact .inr ⟨by simp, rfl⟩)

/-! ### The steps of the agents -/

theorem cmdReady_iff (s : State) : s.cmdReady = true ↔ s.ph = .idle := by simp [State.cmdReady]

theorem takeInterrupt_next {s t : State} (h : takeInterrupt s = .next t) :
    ∃ p, s.recordedPin = some p ∧ t = (s.clearMatch.record .dispatch).pinToggle p := by
  obtain ⟨p, hp, h⟩ := withPin_next h
  exact ⟨p, hp, (Host.Outcome.next.inj h).symm⟩

theorem enabled_host_iff (s : State) : enabled .host s = true ↔ s.ph = .idle ∧ s.words ≠ [] := by
  simp [enabled, State.cmdReady]

theorem enabled_seq_iff (s : State) : enabled .seq s = true ↔ s.ph ≠ .idle := by simp [enabled, State.cmdReady]

theorem enabled_tmr (s : State) : enabled .tmr s = s.tcr.getLsbD 7 := rfl

theorem enabled_irq_iff (s : State) : enabled .irq s = true ↔ s.ie = true ∧ s.mp = true := by
  simp [enabled, State.irqEnabled]

theorem agentStep_disabled {a : Agent} {s : State} (h : enabled a s = false) : agentStep a s = .next s := by
  simp [agentStep, h]

theorem agentStep_host {s : State} (h : enabled .host s = true) : agentStep .host s = hostStep s := by
  simp [agentStep, h]

theorem agentStep_seq {s : State} (h : enabled .seq s = true) : agentStep .seq s = seqStep s := by
  simp [agentStep, h]

theorem agentStep_tmr {s : State} (h : enabled .tmr s = true) : agentStep .tmr s = .next (tick s) := by
  simp [agentStep, h]

theorem agentStep_irq {s : State} (h : enabled .irq s = true) : agentStep .irq s = takeInterrupt s := by
  simp [agentStep, h]

/-- Everything a step of an agent that answers a next state can be. -/
inductive AgentStep : Agent → State → State → Prop where
  | disabled {a s} : enabled a s = false → AgentStep a s s
  | host {s t w ws i} : s.ph = .idle → s.words = w :: ws → decode w = .ok i →
      exec i { s with words := ws } = .next t → AgentStep .host s t
  | seq {s t} : s.ph ≠ .idle → MicroStep s t → AgentStep .seq s t
  | tmr {s} : s.run = true → AgentStep .tmr s (tick s)
  | irq {s p} : s.ie = true → s.mp = true → s.recordedPin = some p →
      AgentStep .irq s ((s.clearMatch.record .dispatch).pinToggle p)

theorem agentStep_next {a : Agent} {s t : State} (h : agentStep a s = .next t) : AgentStep a s t := by
  unfold agentStep at h
  split at h
  · rename_i he
    cases a with
    | host =>
      simp only [enabled, Bool.and_eq_true, cmdReady_iff] at he
      simp only [hostStep] at h
      split at h
      · simp_all
      · rename_i w ws hw
        split at h
        · cases h
        · exact .host he.1 hw ‹_› h
    | seq =>
      have hb : s.ph ≠ .idle := by simpa [enabled, State.cmdReady] using he
      exact .seq hb (seqStep_next hb h)
    | tmr => cases h; exact .tmr he
    | irq =>
      simp only [enabled, State.irqEnabled, Bool.and_eq_true] at he
      obtain ⟨p, hp, rfl⟩ := takeInterrupt_next h
      exact .irq he.1 he.2 hp
  · rename_i he
    cases h; exact .disabled (by simpa using he)

/-- A step is the step of the agent whose turn it is, with the turn spent. -/
theorem step_next {s t : State} (h : step s = .next t) :
    ∃ a s', nextAgent s = a ∧ spendTurn s = s' ∧ AgentStep a s' t :=
  ⟨_, _, rfl, rfl, agentStep_next h⟩

end Sys2Proof.Machine
end

