-- ==== Sys2Proof/Laws/PerInstr.lean ====
section
/-! SUPPORT. Statements about every instruction as syntax, one lemma for each constructor. -/

namespace Sys2Proof.Laws.LegalEncoding

/-- The word of an instruction is legal (R84 to R86), its reserved field is 0 (R81), and its operation code is the one
of R82. -/
def Statement (i : Instr) : Prop :=
  legalWord (encode i) = true ∧ fieldRsv (encode i) = 0#6 ∧
    fieldOpc (encode i) = (match i with
      | .init => 0b00#2
      | .settone _ _ => 0b01#2
      | .stoptone _ => 0b10#2)

theorem init : Statement .init := by unfold Statement; decide

theorem settone (pin : PinIndex) (freq : Hertz) : Statement (.settone pin freq) := by
  refine ⟨?_, by simp [encode, fieldRsv_packFields], by simp [encode, fieldOpc_packFields]⟩
  have h : isSettoneWord (encode (.settone pin freq)) = true := by
    simp only [isSettoneWord, matchesRow, encode, packFields, beq_iff_eq]
    ext i hi
    simp only [BitVec.getElem_and, BitVec.getElem_append]
    interval_cases i <;> simp
  simp [legalWord, h]

theorem stoptone (pin : PinIndex) : Statement (.stoptone pin) := by
  refine ⟨?_, by simp [encode, fieldRsv_packFields], by simp [encode, fieldOpc_packFields]⟩
  have h : isStoptoneWord (encode (.stoptone pin)) = true := by
    simp only [isStoptoneWord, matchesRow, encode, packFields, beq_iff_eq]
    ext i hi
    simp only [BitVec.getElem_and, BitVec.getElem_append]
    interval_cases i <;> simp
  simp [legalWord, h]

end Sys2Proof.Laws.LegalEncoding
end

