-- ==== Sys2Proof/Tests/Slice0.lean ====
section
/-! SUPPORT. The model's own tests (expected values from spec/95_test_vectors.md and from the fields of
spec/30_encoding.md), and for every statement with hypotheses a witness that meets them. -/

namespace Sys2Proof.Tests

open Sys2Proof Sys2Proof.Machine

/-! ## Words (R84 to R87, V311) -/

/-- One ill-formed word for each case of R87, which the check refuses. -/
theorem test_wellFormed_refuses :
    legalWord 0xC0000000 = false ∧ legalWord 0xFFFFFFFF = false ∧ legalWord 0x41000000 = false ∧
    legalWord 0x3F000000 = false ∧ legalWord 0x00000001 = false ∧ legalWord 0x00010000 = false ∧
    legalWord 0x80000001 = false ∧ legalWord 0x80040001 = false := by decide

theorem test_wellFormed_accepts :
    isInitWord 0 = true ∧ isSettoneWord 0x400402BC = true ∧ isStoptoneWord 0x80FF0000 = true := by decide

/-- OPC 00, RSV 000000, PINF 0, FRQF 0. -/
theorem test_decode_init : decode 0b00000000000000000000000000000000 = .ok .init := by decide

/-- OPC 01, RSV 000000, PINF 00000100, FRQF 0000001010111100. -/
theorem test_decode_settone : decode 0b01000000000001000000001010111100 = .ok (.settone 4 700) := by decide

/-- OPC 10, RSV 000000, PINF 00000100, FRQF 0. -/
theorem test_decode_stoptone : decode 0b10000000000001000000000000000000 = .ok (.stoptone 4) := by decide

theorem test_decodeTableWord :
    decodeTableWord 32 0 = some .init ∧ decodeTableWord 32 0x4005FFFF = some (.settone 5 65535) ∧
    decodeTableWord 32 0x80FF0000 = some (.stoptone 255) ∧ decodeTableWord 32 0xC0000000 = none := by decide

/-! ## The calculator (V310) -/

/-- `Calc` as the pair of numbers of the table, where it has one. -/
def calcPair (c : Params) (f : Hertz) : Option (Nat × Nat) :=
  (toneCalc c f).toOption.map fun r => (r.1.toNat, r.2.toNat)

theorem test_calc_ex1 :
    calcPair .ex1 1 = some (14, 244) ∧ calcPair .ex1 3 = some (13, 162) ∧ calcPair .ex1 61 = some (9, 128) ∧
    calcPair .ex1 700 = some (5, 178) ∧ calcPair .ex1 1953 = some (4, 128) ∧ calcPair .ex1 1954 = some (3, 255) ∧
    calcPair .ex1 15625 = some (1, 128) ∧ calcPair .ex1 15686 = some (0, 255) ∧
    calcPair .ex1 65535 = some (0, 61) := by decide

theorem test_calc_faults :
    toneCalc .ex3 0 = .error .freqZero ∧ toneCalc .ex3 48 = .error (.freqLow 48) ∧
    toneCalc .ex3 50001 = .error (.freqHigh 50001) ∧ toneCalc .ex2 1 = .error (.freqLow 1) := by decide

theorem test_calc_ex3 :
    calcPair .ex3 49 = some (2, 255) ∧ calcPair .ex3 98 = some (1, 255) ∧ calcPair .ex3 196 = some (0, 255) ∧
    calcPair .ex3 12500 = some (0, 4) ∧ calcPair .ex3 50000 = some (0, 1) ∧
    calcPair ⟨999999, 14, 0⟩ 1 = some (11, 244) := by decide

theorem test_valid_range :
    (fmin .ex1, fmax .ex1) = (1, 65535) ∧ (fmin .ex2, fmax .ex2) = (2, 65535) ∧
    (fmin .ex3, fmax .ex3) = (49, 50000) := by decide

/-! ## Small states -/

/-- The reset state of EX3. -/
def s3 : State := .resetWith .ex3

/-- EX3 with the main line at phase `ph`. -/
def at3 (ph : Phase) : State := { s3 with ph := ph }

/-- EX3 playing 12 500 Hz on pin 0 (V322, step 1). -/
def playing : State :=
  { s3 with freq := 12500, pin := 0, pinWritten := true, aFreq := 12500, tSc := 4, ie := true, cmp := 3, tcr := 0x80, dir := [true, false] }

/-- EX3 being retuned from 12 500 Hz to 6 250 Hz on pin 0, at phase `ph`. -/
def retune (ph : Phase) : State :=
  { playing with
    ph := ph, aFreq := 6250
    freq := if ph.freqStored then 6250 else 12500
    tSc := if ph.scratchHeld then 8 else 4
    ie := !ph.masked }

/-- The timer registers of a row of V312. -/
def timer (tcr cmp cnt : TimerReg) (psc : BitVec 16) (mp : Bool) : State :=
  { s3 with tcr := tcr, cmp := cmp, cnt := cnt, psc := psc, mp := mp }

/-- What a row of V312 shows after. -/
def afterTick (s : State) : Nat × Nat × Bool := ((tick s).cnt.toNat, (tick s).psc.toNat, (tick s).mp)

/-! ## Instructions, one step each -/

/-- The first command after reset, whatever the parameters: INIT and STOPTONE are accepted. -/
theorem test_first_accepts :
    nextOf (step (State.reset.withFetchWord 32 0)) =
      some { State.reset with ph := .init1, sched := List.replicate 9 .seq } ∧
    nextOf (step (State.reset.withFetchWord 32 0x80000000)) =
      some { State.reset with ph := .stop1, sched := List.replicate 9 .seq } := ⟨rfl, rfl⟩

/-- `SETTONE 0, 0` as the first command: `F_FREQ_ZERO` (V311). -/
theorem test_first_settone_zero : faultOf (step (State.reset.withFetchWord 32 0x40000000)) = some .freqZero := rfl

theorem test_settone_accept :
    nextOf (step ((State.resetWith .ex1).withFetchWord 32 0x400402BC)) =
      some { State.resetWith .ex1 with
        ph := .set1, aPin := 4, aFreq := 700, sched := List.replicate 9 .seq } := by decide

/-- V314, and the order of R101 (V311, `SETTONE 6, 0` under EX1). -/
theorem test_settone_faults :
    (faultOf (exec (.settone 2 100) s3)).map Fault.code = some 1 ∧ faultOf (exec (.settone 0 0) s3) = some .freqZero ∧
    (faultOf (exec (.settone 0 50001) s3)).map Fault.code = some 3 ∧
    (faultOf (exec (.settone 0 48) s3)).map Fault.code = some 4 ∧
    faultOf (exec (.settone 6 0) (.resetWith .ex1)) = some (.pinInvalid 6) := by decide

/-- V321, step 8, in its last micro-step; and V314, STOPTONE before any SETTONE. -/
theorem test_stoptone_last :
    (nextOf (exec (.stoptone 1) { playing with ph := .stop2, lvl := [true, true] })).map (·.lvl) = some [false, true] ∧
    faultOf (exec (.stoptone 255) (at3 .stop2)) = some .pinUnwritten := by decide

theorem test_init_last : (nextOf (exec .init { playing with ph := .init1 })).map (·.freq) = some 0 := by decide

/-! ## TICK (V312) and the handler (V313) -/

theorem test_tick_match :
    afterTick (timer 0x80 3 3 0 false) = (0, 0, true) ∧ afterTick (timer 0x80 0 0 0 false) = (0, 0, true) ∧
    afterTick (timer 0x81 2 2 1 false) = (0, 0, true) ∧ afterTick (timer 0x85 177 177 31 false) = (0, 0, true) ∧
    afterTick (timer 0x80 255 255 0 false) = (0, 0, true) := by decide

theorem test_tick_counts :
    afterTick (timer 0x81 2 2 0 false) = (2, 1, false) ∧ afterTick (timer 0x80 3 200 0 false) = (201, 0, false) ∧
    afterTick (timer 0x80 3 255 0 false) = (0, 0, false) ∧ afterTick (timer 0x80 3 0 3 false) = (1, 0, false) ∧
    afterTick (timer 0x8E 243 5 16383 false) = (6, 0, false) := by decide

theorem test_irq :
    (nextOf (agentStep .irq { playing with mp := true, pin := 1, lvl := [true, false] })).map (fun s => (s.mp, s.lvl)) =
      some (false, [true, true]) ∧
    nextOf (agentStep .irq { playing with mp := true, ie := false }) = some { playing with mp := true, ie := false } := by
  decide

/-- R209 by hand: from `CNT = 253` with `CMP = 3` the match comes at TICK `257 - 253 + 3 = 7`. -/
theorem test_first_match_after_retune :
    (ticks 6 (timer 0x80 3 253 0 false)).mp = false ∧ (ticks 7 (timer 0x80 3 253 0 false)).mp = true := by decide

/-! ## States that meet the invariant -/

theorem inv_playing : playing.Inv := by
  constructor
  case pinValid => intro p h; cases h; decide
  case freqValid => exact fun _ => ⟨0, 4, by decide⟩
  case latchFreq => exact fun h => absurd h (by decide)
  case programmed => exact fun _ _ => ⟨0, 4, by decide⟩
  case tcrForm => exact .inr ⟨0, by decide⟩
  all_goals decide

theorem inv_retune : ∀ ph ∈ [Phase.set2aMode, .set2c, .set2d, .set2eCmp], (retune ph).Inv := by
  intro ph h
  simp only [List.mem_cons, List.not_mem_nil, or_false] at h
  rcases h with rfl | rfl | rfl | rfl <;> constructor
  case pinValid | pinValid | pinValid | pinValid => intro p h; cases h; decide
  case latchFreq | latchFreq | latchFreq | latchFreq => exact fun _ => ⟨0, 8, by decide⟩
  case tcrForm | tcrForm | tcrForm | tcrForm => exact .inr ⟨0, by decide⟩
  case programmed => exact fun _ _ => ⟨0, 4, by decide⟩
  case programmed | programmed | programmed => exact fun h => absurd h (by decide)
  case freqValid => exact fun _ => ⟨0, 4, by decide⟩
  case freqValid | freqValid | freqValid => exact fun _ => ⟨0, 8, by decide⟩
  all_goals decide

/-- A STOPTONE in progress before any SETTONE also meets the invariant. -/
theorem inv_stop : ∀ ph ∈ [Phase.stop1, .stop2], (at3 ph).Inv := by
  intro ph h
  simp only [List.mem_cons, List.not_mem_nil, or_false] at h
  rcases h with rfl | rfl <;> constructor
  case pinValid | pinValid => intro p h; cases h
  case latchFreq | latchFreq | freqValid | freqValid => exact fun h => absurd h (by decide)
  case programmed | programmed => exact fun _ h => absurd rfl h
  case tcrForm | tcrForm => exact .inl rfl
  all_goals decide

/-! ## Witnesses

One theorem for each statement that has hypotheses, and a part of it for each clause, at the edges of its range: the
hypotheses hold together. `witness_<Name>` belongs to `Obligations.<Name>`. -/

/-- `s` with this turn next. -/
def turnOf (a : Agent) (s : State) : State := { s with sched := [a] }

/-- `s` with the host's turn next, presenting `w`. -/
def hosting (w : CmdWord) (s : State) : State := { s with sched := [.host], words := [w] }

theorem witness_EncodeOfDecode : decode 0x40FFFFFF = .ok (.settone 255 65535) := by decide

theorem witness_OperandsAreUnsignedFields :
    decode 0x40FFFFFF = .ok (.settone 255 65535) ∧ decode 0x40000000 = .ok (.settone 0 0) ∧
    decode 0x80FF0000 = .ok (.stoptone 255) := by decide

theorem witness_IllegalWordIsRefused : ∃ (s : State) (w : CmdWord), nextAgent s = .host ∧ s.words = [w] ∧ s.ph = .idle ∧ legalWord w = false :=
  ⟨hosting 0x00000001 playing, 0x00000001, by decide⟩

theorem witness_AcceptTakesOneCommand :
    ∃ s : CmdWord → State, (∀ w, nextAgent (s w) = .host ∧ (s w).words = [w] ∧ (s w).ph = .idle) ∧
      legalWord 0x80040001 = false ∧ decode 0 = .ok .init ∧ decode 0x80FF0000 = .ok (.stoptone 255) ∧
      decode 0x40020064 = .ok (.settone 2 100) ∧ settoneFault? (s 0x40020064).cfg 2 100 = some (.pinInvalid 2) ∧
      decode 0x40010064 = .ok (.settone 1 100) ∧ settoneFault? (s 0x40010064).cfg 1 100 = none ∧
      nextAgent (hosting 0 (retune .set2b)) = .host ∧ (hosting 0 (retune .set2b)).ph ≠ .idle :=
  ⟨fun w => hosting w playing, fun _ => ⟨rfl, rfl, rfl⟩, by decide⟩

theorem witness_StepRunsTheCommand :
    (∃ (s : State) (w : CmdWord), nextAgent s = .host ∧ s.words = [w] ∧ s.ph = .idle ∧ decode w = .ok (.stoptone 4)) ∧
    (∃ s : State, nextAgent s = .seq ∧ inProgress s = some (.settone 0 6250)) ∧
    (∃ s : State, nextAgent s = .seq ∧ inProgress s = some .init) ∧ (∃ s : State, nextAgent s = .seq ∧ inProgress s = some (.stoptone 0)) :=
  ⟨⟨hosting 0x80040000 playing, 0x80040000, by decide⟩, ⟨turnOf .seq (retune .set2c), by decide⟩,
    ⟨turnOf .seq (at3 .init1), by decide⟩, ⟨turnOf .seq (at3 .stop2), by decide⟩⟩

theorem witness_StepRunsTimerAndHandler :
    (∃ s : State, nextAgent s = .tmr ∧ s.tcr.getLsbD 7 = true) ∧ (∃ s : State, nextAgent s = .tmr ∧ s.tcr.getLsbD 7 = false) ∧
    (∃ s : State, nextAgent s = .irq ∧ s.ie = true ∧ s.mp = true) ∧ (∃ s : State, nextAgent s = .irq ∧ s.ie = true ∧ s.mp = false) ∧
    (∃ s : State, nextAgent s = .irq ∧ s.ie = false ∧ s.mp = true) ∧ (∃ s : State, nextAgent s = .seq ∧ s.ph = .idle) ∧
    (∃ s : State, nextAgent s = .host ∧ s.words = [] ∧ s.ph = .idle) ∧ (∃ s : State, nextAgent s = .host ∧ s.words ≠ [] ∧ s.ph ≠ .idle) :=
  ⟨⟨turnOf .tmr playing, by decide⟩, ⟨turnOf .tmr s3, by decide⟩, ⟨turnOf .irq { playing with mp := true }, by decide⟩,
    ⟨turnOf .irq playing, by decide⟩, ⟨turnOf .irq { playing with mp := true, ie := false }, by decide⟩,
    ⟨turnOf .seq s3, by decide⟩, ⟨turnOf .host s3, by decide⟩, ⟨hosting 0 (at3 .stop1), by decide⟩⟩

theorem witness_PlacedWordRunsNext : decode 0x400402BC = .ok (.settone 4 700) := by decide

theorem witness_InitSetsFrequencyZero : playing.ph = .idle ∧ (at3 .init1).ph = .init1 := by decide

theorem witness_InitFrame :
    (∃ t, exec .init { playing with ph := .init1 } = .next t ∧ t.freq ≠ playing.freq ∧ t.ph ≠ .init1) ∧
    (∃ t, exec .init playing = .next t ∧ t.ph ≠ playing.ph) :=
  ⟨⟨_, rfl, by decide⟩, ⟨_, rfl, by decide⟩⟩

theorem witness_SettonePreconditionOrder :
    s3.ph = .idle ∧ s3.cfg.npins ≤ (2 : PinIndex).toNat ∧ (1 : PinIndex).toNat < s3.cfg.npins ∧
    toneCalc s3.cfg 48 = .error (.freqLow 48) ∧ toneCalc s3.cfg 50001 = .error (.freqHigh 50001) ∧
    toneCalc s3.cfg 49 = .ok (2, 255) ∧ toneCalc s3.cfg 50000 = .ok (0, 1) ∧
    playing.Inv ∧ playing.freq ≠ 0#16 ∧ (1 : PinIndex).toNat < playing.cfg.npins :=
  ⟨by decide, by decide, by decide, by decide, by decide, by decide, by decide,
    inv_playing, by decide, by decide⟩

theorem witness_SettoneRecordsThePin :
    (∃ s : State, s.ph = .set1 ∧ s.aFreq ≠ s.freq) ∧ (∃ s : State, s.ph = .set1 ∧ s.aFreq = s.freq) :=
  ⟨⟨retune .set1, by decide⟩, ⟨{ playing with ph := .set1 }, by decide⟩⟩

theorem witness_SettoneMakesThePinALowOutput :
    ((retune .set2aMode).ph = .set2aMode ∧ (retune .set2aMode).recordedPin = some 0) ∧
    ((retune .set2aLow).ph = .set2aLow ∧ (retune .set2aLow).recordedPin = some 0) ∧ (retune .set2aMode).Inv :=
  ⟨by decide, by decide, inv_retune _ (by decide)⟩

theorem witness_SettoneStoresThenComputes :
    (retune .set2b).ph = .set2b ∧ (retune .set2c).ph = .set2c ∧
    toneCalc (retune .set2c).cfg (retune .set2c).freq = .ok (0, 8) ∧ (retune .set2c).Inv :=
  ⟨by decide, by decide, by decide, inv_retune _ (by decide)⟩

theorem witness_SettoneReprogramsInsideTheBracket :
    (retune .set2d).ph = .set2d ∧ (retune .set2eCmp).ph = .set2eCmp ∧ (retune .set2eCmp).Inv ∧
    (retune .set2eTcr).ph = .set2eTcr ∧ (retune .set3).ph = .set3 :=
  ⟨rfl, rfl, inv_retune _ (by decide), rfl, rfl⟩

theorem witness_SettoneCompletes :
    playing.ph = .idle ∧ (1 : PinIndex).toNat < playing.cfg.npins ∧ toneCalc playing.cfg 49 = .ok (2, 255) ∧
    (49 : Hertz) ≠ playing.freq ∧ toneCalc playing.cfg 12500 = .ok (0, 4) ∧ (12500 : Hertz) = playing.freq := by
  decide

/-- TICKs between the micro-steps of a SETTONE. -/
def mixed : List Agent := (List.replicate 9 [Agent.tmr, .seq, .tmr]).flatten

theorem witness_SettoneNetEffectUnderTicks :
    playing.ph = .idle ∧ (1 : PinIndex).toNat < playing.cfg.npins ∧
    (∀ a ∈ mixed, a = .seq ∨ a = .tmr) ∧ 9 ≤ mixed.count .seq ∧
    (toneCalc playing.cfg 6250 = .ok (0, 8) ∧ (6250 : Hertz) ≠ playing.freq ∧
      ∃ t u, exec (.settone 1 6250) playing = .next t ∧ runTurns mixed t = .next u) ∧
    (toneCalc playing.cfg 12500 = .ok (0, 4) ∧ (12500 : Hertz) = playing.freq ∧
      ∃ t u, exec (.settone 1 12500) playing = .next t ∧ runTurns mixed t = .next u) ∧
    (9 ≤ (List.replicate 9 Agent.seq).count .seq ∧ Agent.tmr ∉ List.replicate 9 Agent.seq ∧
      ∃ t u, exec (.settone 1 6250) playing = .next t ∧ runTurns (List.replicate 9 .seq) t = .next u) :=
  ⟨by decide, by decide, by decide, by decide, ⟨by decide, by decide, _, _, rfl, rfl⟩,
    ⟨by decide, by decide, _, _, rfl, rfl⟩, by decide, by decide, _, _, rfl, rfl⟩

theorem witness_SettoneTwiceDoesNotReprogram :
    s3.ph = .idle ∧ (1 : PinIndex).toNat < s3.cfg.npins ∧ ValidFreq s3.cfg 50000 :=
  ⟨rfl, by decide, 0, 1, by decide⟩

theorem witness_PinSwitchLeavesTheTimerAlone :
    s3.ph = .idle ∧ (0 : PinIndex).toNat < s3.cfg.npins ∧ (1 : PinIndex).toNat < s3.cfg.npins ∧ ValidFreq s3.cfg 49 :=
  ⟨rfl, by decide, by decide, 2, 255, by decide⟩

/-- In each phase that writes one of the registers of the frame. -/
theorem witness_SettoneFrame :
    (∃ t, exec (.settone 1 6250) playing = .next t ∧ t.aPin ≠ playing.aPin) ∧
    (∃ t, exec (.settone 0 6250) { retune .set1 with aPin := 1 } = .next t ∧ t.pin ≠ playing.pin) ∧
    (∃ t, exec (.settone 0 6250) (retune .set2aLow) = .next t ∧ t.dir[1]? = some false) ∧
    (∃ t, exec (.settone 0 6250) (retune .set2b) = .next t ∧ t.freq ≠ playing.freq) ∧
    (∃ t, exec (.settone 0 6250) (retune .set2eCmp) = .next t ∧ t.cmp ≠ playing.cmp) :=
  ⟨⟨_, rfl, by decide⟩, ⟨_, rfl, by decide⟩, ⟨_, rfl, by decide⟩, ⟨_, rfl, by decide⟩, ⟨_, rfl, by decide⟩⟩

theorem witness_StoptoneMasksThenDrivesLow :
    playing.ph = .idle ∧ (at3 .stop1).ph = .stop1 ∧ (at3 .stop2).ph = .stop2 ∧ (at3 .stop2).recordedPin = none ∧
    { playing with ph := .stop2 }.recordedPin = some 0 := by decide

theorem witness_StoptoneCompletes :
    (playing.ph = .idle ∧ playing.recordedPin = some 0) ∧ (s3.ph = .idle ∧ s3.recordedPin = none) := by decide

theorem witness_StoptoneOperandIsIgnored :
    (playing.ph = .idle ∧ playing.recordedPin = some 0 ∧ (0 : PinIndex) ≠ 1 ∧ ∃ t, runCommand (.stoptone 1) playing = .next t) ∧
    (s3.ph = .idle ∧ runCommand (.stoptone 1) s3 = .fault .pinUnwritten) :=
  ⟨⟨rfl, rfl, by decide, _, rfl⟩, rfl, rfl⟩

/-- A match falls due, and the host presents another STOPTONE, which runs to its end. -/
theorem witness_StoppedToneStaysLow :
    ∃ s t u : State, s.ph = .idle ∧ s.recordedPin = some 0 ∧ s.words = [0x80010000] ∧ (∀ w ∈ s.words, isSettoneWord w = false) ∧
      (0 : PinIndex).toNat < s.lvl.length ∧ s.lvl = [true, true] ∧
      runCommand (.stoptone 1) s = .next t ∧ Host.Core.run Sys2Proof.core 5 t = .next u ∧ u.mp = true ∧ u.ph = .idle :=
  ⟨{ playing with cnt := 3, lvl := [true, true], words := [0x80010000], sched := [.tmr, .irq, .host, .seq, .seq] }, _, _, rfl,
    rfl, rfl, fun _ h => by rw [List.mem_singleton.1 h]; decide, by decide, rfl, rfl, rfl, rfl, rfl⟩

theorem witness_StoptoneFrame :
    (∃ t, exec (.stoptone 1) { playing with ph := .stop2, lvl := [true, true] } = .next t ∧ t.lvl = [false, true]) ∧
    (∃ t, exec (.stoptone 1) { playing with ph := .stop1 } = .next t ∧ t.ie = false) ∧
    (∃ t, exec (.stoptone 1) playing = .next t ∧ t.aPin = 1) :=
  ⟨⟨_, rfl, rfl⟩, ⟨_, rfl, rfl⟩, ⟨_, rfl, rfl⟩⟩

theorem witness_BusyCommandWaits :
    ((at3 .stop1).ph ≠ .idle ∧ (at3 .stop1).ph ≠ .init1 ∧ (at3 .stop1).ph.isSettone = false) ∧
    ((retune .set2b).ph ≠ .idle ∧ (retune .set2b).ph ≠ .stop1 ∧ (retune .set2b).ph ≠ .stop2) := by decide

theorem witness_CountIsHalfThePeriod : (65535 : Hertz) ≠ 0#16 := by decide

theorem witness_SearchFindsTheLeastStep :
    255 ≤ 255 ∧ 255 < 256 ∧ 256 < 2 ^ 31 ∧ 255 < 2 ^ 31 - 1 ∧ prescalerSearch searchRounds 255 0 = 0 ∧
    prescalerSearch searchRounds 256 0 = 1 ∧ prescalerSearch searchRounds (2 ^ 31 - 1) 0 = 23 := by decide

theorem witness_CalcRanges : toneCalc .ex1 15686 = .ok (0, 255) ∧ toneCalc .ex1 61 = .ok (9, 128) := by decide

theorem witness_ToneIsNeverFlat : toneCalc .ex3 50000 = .ok (0, 1) ∧ toneCalc .ex1 3 = .ok (13, 162) := by decide

/-- A clock of 2^32 - 1 Hz with one prescaler step has FMIN above FMAX. -/
theorem witness_ValidRange : ∃ s : State, s.ph = .idle ∧ fmax s.cfg < fmin s.cfg :=
  ⟨.resetWith ⟨4294967294, 0, 0⟩, rfl, by decide⟩

theorem witness_BoundaryFrequencies :
    (toneCalc .ex3 49 = .ok (2, 255) ∧ (49 : Hertz).toNat = fmin .ex3) ∧
    (toneCalc .ex1 1 = .ok (14, 244) ∧ (1 : Hertz).toNat = fmin .ex1) ∧
    (toneCalc .ex3 50000 = .ok (0, 1) ∧ (50000 : Hertz).toNat = fmax .ex3 ∧
      (50000 : Hertz).toNat = Params.ex3.timerClock / 2) ∧
    (toneCalc .ex1 65535 = .ok (0, 61) ∧ Params.ex1.timerClock < 33553920) := by decide

theorem witness_TickCountsAndMatches :
    (∃ s : State, s.psc.toNat + 1 < 2 ^ (s.tcr.toNat % 16)) ∧
    (∃ s : State, 2 ^ (s.tcr.toNat % 16) ≤ s.psc.toNat + 1 ∧ s.cnt = s.cmp) ∧
    (∃ s : State, 2 ^ (s.tcr.toNat % 16) ≤ s.psc.toNat + 1 ∧ s.cnt ≠ s.cmp ∧ s.cnt = 255) :=
  ⟨⟨timer 0x8F 0 0 32766 false, by decide⟩, ⟨timer 0x8F 3 3 32767 false, by decide⟩,
    ⟨timer 0x80 3 255 0 false, by decide⟩⟩

/-- The counter at 0, at `CMP`, just above it, and at 255; and a divider left over from a larger factor. Before them, a
phase of SETTONE, and a running timer while the interrupt is masked. -/
theorem witness_NextMatchIsOnTime :
    (∃ t, exec (.settone 0 6250) (retune .set2eCmp) = .next t) ∧
    ((retune .set2eCmp).tcr.getLsbD 7 = true ∧ (retune .set2eCmp).ie = false) ∧
    ∃ due : State → Nat → Nat → Nat → Prop,
      (∀ s d steps n, due s d steps n ↔
        d = 2 ^ (s.tcr.toNat % 16) ∧
        steps = (if s.cnt.toNat ≤ s.cmp.toNat then s.cmp.toNat - s.cnt.toNat + 1
          else 257 - s.cnt.toNat + s.cmp.toNat) ∧
        n = max 1 (d - s.psc.toNat) + d * (steps - 1)) ∧
      due (timer 0x81 3 0 1 false) 2 4 7 ∧ due (timer 0x80 3 3 0 false) 1 1 1 ∧ due (timer 0x80 3 4 0 false) 1 256 256 ∧
      due (timer 0x80 3 255 3 false) 1 5 5 ∧ due (timer 0x80 3 200 0 false) 1 60 60 :=
  ⟨⟨_, rfl⟩, by decide, _, fun _ _ _ _ => Iff.rfl, by decide⟩

theorem witness_MatchPeriodIsExact :
    ∃ s : State, 32 = 2 ^ (s.tcr.toNat % 16) ∧ s.cnt = 0#8 ∧ s.psc = 0#16 ∧ s.mp = false ∧ s.cmp = 177 :=
  ⟨timer 0x85 177 0 0 false, by decide⟩

theorem witness_TimerHoldsUntilRunAndNeverStops :
    s3.tcr.getLsbD 7 = false ∧ (∃ t, step (turnOf .tmr playing) = .next t) ∧
    (∃ t, step (turnOf .seq (retune .set2eTcr)) = .next t) ∧ playing.tcr.getLsbD 7 = true :=
  ⟨rfl, ⟨_, rfl⟩, ⟨_, rfl⟩, rfl⟩

theorem witness_HandlerTogglesTheRecordedPin :
    (∃ s : State, s.ie = true ∧ s.mp = true ∧ s.recordedPin = some 0) ∧ (∃ s : State, s.ie = true ∧ s.mp = true ∧ s.recordedPin = none) ∧
    (∃ s : State, s.ie = false ∧ s.mp = true) ∧ (∃ s : State, s.ie = true ∧ s.mp = false) ∧
    (playing.Inv ∧ playing.ie = true) :=
  ⟨⟨{ playing with mp := true }, by decide⟩, ⟨{ playing with mp := true, pinWritten := false }, by decide⟩,
    ⟨{ s3 with mp := true }, by decide⟩, ⟨playing, by decide⟩, inv_playing, rfl⟩

theorem witness_HandlerTouchesOneLatch :
    ∃ s t : State, s.ie = true ∧ s.mp = true ∧ s.recordedPin = some 1 ∧ agentStep .irq s = .next t ∧
      s.lvl[(1 : PinIndex).toNat]? = some true ∧ t.lvl = [false, false] :=
  ⟨{ playing with mp := true, pin := 1, lvl := [false, true] }, _, rfl, rfl, rfl, rfl, rfl, rfl⟩

theorem witness_SquareWaveIsExact :
    playing.Inv ∧ playing.ph = .idle ∧ playing.freq ≠ 0#16 ∧ toneCalc playing.cfg playing.freq = .ok (0, 4) ∧
    playing.ie = true ∧ playing.recordedPin = some 0 ∧ playing.cnt = 0#8 ∧ playing.psc = 0#16 ∧ playing.mp = false :=
  ⟨inv_playing, by decide⟩

/-- A dispatch three TICKs after its match, and one still to come. -/
def lateDispatch : List Agent := [.tmr, .tmr, .tmr, .tmr, .tmr, .tmr, .tmr, .irq, .tmr, .seq]

/-- The schedule's clause: with `P = 4`, the second match (TICK 8) finds nothing pending. -/
theorem witness_SquareWaveIsExact_late :
    (∀ a ∈ lateDispatch, a ≠ .host) ∧
    (∀ (before : List Agent) (v : State), before ++ [Agent.tmr] <+: lateDispatch →
      runTurns before playing = .next v →
      (before.count .tmr + 1) % (2 ^ (0 : BitVec 4).toNat * (4 : BitVec 8).toNat) = 0 → v.mp = false) := by
  refine ⟨by decide, fun before v hp hr hm => ?_⟩
  have key : ∀ n ≤ 9, lateDispatch.take (n + 1) = lateDispatch.take n ++ [Agent.tmr] →
      ((lateDispatch.take n).count .tmr + 1) % 4 = 0 →
      (nextOf (runTurns (lateDispatch.take n) playing)).all (fun v => !v.mp) = true := by decide
  have hl := hp.length_le
  have ht := List.prefix_iff_eq_take.1 hp
  have hb := List.prefix_iff_eq_take.1 ((List.prefix_append before [Agent.tmr]).trans hp)
  have hn : before.length ≤ 9 := Nat.lt_succ_iff.1 (by simpa [lateDispatch] using hl)
  simp only [List.length_append, List.length_singleton] at ht
  have := key before.length hn (by rw [← ht, ← hb]) (by rw [← hb]; exact hm)
  rw [← hb, hr] at this
  simpa [nextOf] using this

theorem witness_HandlerReadsOnlyThePin :
    ∃ t, agentStep .irq { playing with mp := true } = .next t ∧ t.lvl = [true, false] := ⟨_, rfl, rfl⟩

theorem witness_OnlyThreePhasesWriteTheEnable :
    (∃ t, step (turnOf .seq (at3 .set3)) = .next t ∧ t.ie = true ∧ t.ie ≠ (at3 .set3).ie) ∧
    (∃ t, step (turnOf .seq (retune .set2d)) = .next t ∧ t.ie = false ∧ t.ie ≠ (retune .set2d).ie) ∧
    (∃ t, step (turnOf .seq { playing with ph := .stop1 }) = .next t ∧ t.ie = false ∧ t.ie ≠ playing.ie) :=
  ⟨⟨_, rfl, by decide⟩, ⟨_, rfl, by decide⟩, ⟨_, rfl, by decide⟩⟩

theorem witness_OnlyMatchAndDispatchWriteThePendingFlag :
    (∃ t, step (turnOf .tmr { playing with cnt := 3 }) = .next t ∧ t.mp = true ∧ playing.mp = false) ∧
    (∃ t, step (turnOf .irq { playing with mp := true }) = .next t ∧ t.mp = false) :=
  ⟨⟨_, rfl, by decide⟩, ⟨_, rfl, by decide⟩⟩

theorem witness_OnlyTheirPhasesWriteFreqAndPin :
    (∃ t, step (turnOf .seq { playing with ph := .init1 }) = .next t ∧ t.freq ≠ playing.freq) ∧
    (∃ t, step (turnOf .seq (retune .set2b)) = .next t ∧ t.freq ≠ (retune .set2b).freq) ∧
    (∃ t, step (turnOf .seq (at3 .set1)) = .next t ∧ t.pinWritten ≠ (at3 .set1).pinWritten) ∧
    (∃ t, step (turnOf .seq { retune .set1 with aPin := 1 }) = .next t ∧ t.pin ≠ playing.pin) :=
  ⟨⟨_, rfl, by decide⟩, ⟨_, rfl, by decide⟩, ⟨_, rfl, by decide⟩, ⟨_, rfl, by decide⟩⟩

theorem witness_OnlyTheirWritersWriteTheTimer :
    (∃ t, step (turnOf .seq (retune .set2eCmp)) = .next t ∧ t.cmp ≠ playing.cmp) ∧
    (∃ t, step (turnOf .seq { retune .set2eTcr with tK := 1 }) = .next t ∧ t.tcr ≠ playing.tcr) ∧
    (∃ t, step (turnOf .tmr playing) = .next t ∧ t.cnt ≠ playing.cnt) ∧
    (∃ t, step (turnOf .tmr { playing with tcr := 0x81 }) = .next t ∧ t.psc ≠ playing.psc) :=
  ⟨⟨_, rfl, by decide⟩, ⟨_, rfl, by decide⟩, ⟨_, rfl, by decide⟩, ⟨_, rfl, by decide⟩⟩

theorem witness_OnlyTheRecordedPinIsDriven :
    (∃ t, step (turnOf .seq { retune .set2aMode with pin := 1 }) = .next t ∧ t.dir[1]? ≠ playing.dir[1]?) ∧
    (∃ t, step (turnOf .seq { retune .set2aLow with lvl := [true, false] }) = .next t ∧ t.lvl[0]? ≠ some true) ∧
    (∃ t, step (turnOf .seq { playing with ph := .stop2, lvl := [true, false] }) = .next t ∧ t.lvl[0]? ≠ some true) ∧
    (∃ t, step (turnOf .irq { playing with mp := true }) = .next t ∧ t.lvl[0]? ≠ playing.lvl[0]?) :=
  ⟨⟨_, rfl, by decide⟩, ⟨_, rfl, by decide⟩, ⟨_, rfl, by decide⟩, ⟨_, rfl, by decide⟩⟩

theorem witness_RecordsAreNeverCleared :
    step (hosting 0x40000000 playing) = .fault .freqZero ∧ step (turnOf .seq (at3 .stop2)) = .fault .pinUnwritten ∧
    { s3 with refusal := some 0xC0000000 }.refusal = some 0xC0000000 := ⟨rfl, rfl, rfl⟩

theorem witness_ReconfigurationCount :
    playing.ph = .idle ∧ (∃ t, runCommand (.settone 1 6250) playing = .next t) ∧ (6250 : Hertz) ≠ playing.freq ∧
    (∃ t, runCommand (.settone 1 12500) playing = .next t) ∧ (12500 : Hertz) = playing.freq ∧
    (∃ t, runCommand .init playing = .next t) ∧ (∃ t, runCommand (.stoptone 1) playing = .next t) :=
  ⟨rfl, ⟨_, rfl⟩, by decide, ⟨_, rfl⟩, rfl, ⟨_, rfl⟩, ⟨_, rfl⟩⟩

/-- For a turn of each agent. -/
theorem witness_StepKeepsInvariant :
    ((turnOf .tmr playing).Inv ∧ ∃ t, step (turnOf .tmr playing) = .next t) ∧
    ((turnOf .irq playing).Inv ∧ ∃ t, step (turnOf .irq playing) = .next t) ∧
    ((turnOf .seq (retune .set2eCmp)).Inv ∧ ∃ t, step (turnOf .seq (retune .set2eCmp)) = .next t) ∧
    ((hosting 0 playing).Inv ∧ ∃ t, step (hosting 0 playing) = .next t) :=
  ⟨⟨{ inv_playing with }, _, rfl⟩, ⟨{ inv_playing with }, _, rfl⟩,
    ⟨{ inv_retune .set2eCmp (by decide) with }, _, rfl⟩, { inv_playing with }, _, rfl⟩

theorem witness_ResetState :
    (∃ r, r = State.reset) ∧ (∃ r, r = State.resetWith .ex1) ∧ (∃ r, r = (retune .set2b).rst) :=
  ⟨⟨_, rfl⟩, ⟨_, rfl⟩, ⟨_, rfl⟩⟩

theorem witness_BracketKeepsTheHandlerOut :
    ∃ s t : State, s.ph = .set2d ∧ [Agent.irq, .tmr, .seq, .irq, .host, .seq, .irq].count .seq ≤ 2 ∧
      runTurns (.seq :: [Agent.irq, .tmr, .seq, .irq, .host, .seq, .irq]) s = .next t ∧ s.mp = true ∧
      s.tcr.getLsbD 7 = true ∧ s.ie = true ∧ t.ph = .set3 :=
  ⟨{ retune .set2d with mp := true }, _, rfl, by decide, rfl, rfl, rfl, rfl, rfl⟩

theorem witness_MaskedSettoneStartsLow :
    ∃ s t u : State, s.ph = .idle ∧ s.ie = false ∧ (0 : PinIndex).toNat < s.lvl.length ∧ (6250 : Hertz) ≠ s.freq ∧
      s.lvl = [true, false] ∧ s.mp = true ∧ s.words ≠ [] ∧ exec (.settone 0 6250) s = .next t ∧
      (List.replicate 8 [Agent.host, .seq, .tmr, .irq]).flatten.count .seq = 8 ∧
      runTurns (List.replicate 8 [Agent.host, .seq, .tmr, .irq]).flatten t = .next u :=
  ⟨{ playing with ie := false, mp := true, lvl := [true, false], words := [0] }, _, _, rfl, rfl, by decide, by decide, rfl,
    rfl, by decide, rfl, by decide, rfl⟩

theorem witness_CommandEndsWithinNineMicroSteps :
    (retune .set2aMode).Inv ∧ (at3 .stop1).Inv ∧ seqRun 9 (at3 .stop1) = .fault .pinUnwritten :=
  ⟨inv_retune _ (by decide), inv_stop _ (by decide), rfl⟩

/-- A run in which the sequencer always has the turn and ends an INIT. -/
theorem witness_FairRunFinishesTheCommand :
    FairRun (fun _ => .seq) (fun n => if n = 0 then at3 .init1 else s3) where
  steps := by
    intro n
    cases n <;> rfl
  fair := by
    intro a ha n h
    have := h (n + 1) (Nat.le_succ n)
    cases a <;> first | exact absurd rfl ha | exact absurd this (by simp; decide)

end Sys2Proof.Tests
end

section
/-! PROOFS. The step of the machine as the step of the agent whose turn it is (spec/00_scope.md R8, R9): what spending
the turn leaves alone, a step whose agent is disabled, and the statements O9 and O10. -/

namespace Sys2Proof.Machine

/-! ### Spending the turn -/

@[simp] theorem inProgress_spendTurn (s : State) : inProgress (spendTurn s) = inProgress s := by
  simp only [inProgress, spendTurn_ph, spendTurn_aPin, spendTurn_aFreq]

/-- Whether an agent may act does not depend on the schedule. -/
@[simp] theorem enabled_spendTurn (a : Agent) (s : State) : enabled a (spendTurn s) = enabled a s := by
  cases a <;> simp [enabled, State.cmdReady, State.run, State.irqEnabled]

/-! ### The step of the agent whose turn it is -/

theorem step_eq_agentStep {a : Agent} {s : State} (hturn : nextAgent s = a) :
    step s = agentStep a (spendTurn s) := by
  rw [step, hturn]

/-- R100, R159, R174: a turn of an agent with no enabled step only spends itself. -/
theorem step_disabled {a : Agent} {s : State} (hturn : nextAgent s = a) (hoff : ¬ enabled a s = true) :
    step s = .next (spendTurn s) := by
  rw [step_eq_agentStep hturn, agentStep_disabled (by rw [enabled_spendTurn, Bool.eq_false_iff]; exact hoff)]

theorem hostStep_of_decode {s : State} {w : CmdWord} {ws : List CmdWord} {i : Instr}
    (hwords : s.words = w :: ws) (hdecode : decode w = .ok i) :
    hostStep s = exec i { s with words := ws } := by
  simp only [hostStep, hwords, hdecode]

theorem seqStep_of_inProgress {s : State} {i : Instr} (hcmd : inProgress s = some i) :
    seqStep s = exec i s := by
  simp only [seqStep, hcmd]

theorem ph_ne_idle_of_inProgress {s : State} {i : Instr} (hcmd : inProgress s = some i) : s.ph ≠ .idle := by
  intro hidle
  simp [inProgress, hidle] at hcmd

/-! ### The statements -/

/-- Settles O9: the host with a word and an idle block is enabled, and so is the sequencer of a command in progress. -/
theorem stepRunsTheCommand : Obligations.StepRunsTheCommand := by
  unfold Obligations.StepRunsTheCommand
  refine ⟨fun s w ws i hturn hwords hidle hdecode => ?_, fun s i hturn hcmd => ?_⟩
  · have hon : enabled .host (spendTurn s) = true := by
      rw [enabled_spendTurn, enabled_host_iff]
      exact ⟨hidle, by simp [hwords]⟩
    rw [step_eq_agentStep hturn, agentStep_host hon, hostStep_of_decode (by rw [spendTurn_words, hwords]) hdecode]
  · have hon : enabled .seq (spendTurn s) = true := by
      rw [enabled_spendTurn, enabled_seq_iff]
      exact ph_ne_idle_of_inProgress hcmd
    rw [step_eq_agentStep hturn, agentStep_seq hon, seqStep_of_inProgress (by rw [inProgress_spendTurn, hcmd])]

/-- Settles O10: each agent's turn, by whether its step is enabled. -/
theorem stepRunsTimerAndHandler : Obligations.StepRunsTimerAndHandler := by
  unfold Obligations.StepRunsTimerAndHandler
  refine ⟨fun s hturn => ⟨fun hrun => ?_, fun hrun => ?_⟩, fun s hturn => ⟨fun hboth => ?_, fun hmasked => ?_⟩,
    fun s hturn hidle => ?_, fun s hturn hwait => ?_⟩
  · rw [step_eq_agentStep hturn, agentStep_tmr (by rw [enabled_spendTurn, enabled_tmr, hrun])]
  · refine step_disabled hturn ?_
    rw [enabled_tmr, hrun]
    exact Bool.false_ne_true
  · rw [step_eq_agentStep hturn, agentStep_irq (by rw [enabled_spendTurn, enabled_irq_iff]; exact hboth)]
  · refine step_disabled hturn ?_
    rw [enabled_irq_iff]
    rintro ⟨hie, hmp⟩
    simp [hie, hmp] at hmasked
  · refine step_disabled hturn ?_
    rw [enabled_seq_iff]
    exact not_not_intro hidle
  · refine step_disabled hturn ?_
    rw [enabled_host_iff]
    rintro ⟨hidle, hword⟩
    exact hwait.elim hword (· hidle)

end Sys2Proof.Machine
end

section
/-! PROOFS. Who writes what (spec/10_state.md section 8, R39): first in one micro-step, then in one step of any agent.
Each lemma names the writers of a register; whatever is not named keeps its value. -/

namespace Sys2Proof.Machine

/-! ### A list with one entry written -/

theorem getElem?_set_changed {α : Type} {l : List α} {i q : Nat} {v : α} (h : (l.set i v)[q]? ≠ l[q]?) :
    i = q ∧ (l.set i v)[q]? = some v := by
  by_cases hq : i = q
  · subst hq
    by_cases hlt : i < l.length
    · exact ⟨rfl, List.getElem?_set_self hlt⟩
    · rw [List.set_eq_of_length_le (by omega)] at h
      exact absurd rfl h
  · exact absurd (List.getElem?_set_ne hq) h

theorem getElem?_modify_changed {α : Type} {l : List α} {i q : Nat} {f : α → α} (h : (l.modify i f)[q]? ≠ l[q]?) :
    i = q ∧ (l.modify i f)[q]? = l[q]?.map f := by
  by_cases hq : i = q
  · subst hq
    exact ⟨rfl, List.getElem?_modify_eq f i l⟩
  · exact absurd (List.getElem?_modify_ne f l hq) h

/-! ### One micro-step -/

section MicroStep

variable {s t : State} (h : MicroStep s t)
include h

/-- No micro-step writes the parameters, the latches, `MP`, the counter, the divider, the fault record, the refusal mark
or the model's inputs. -/
theorem MicroStep.frame : t = { s with
    freq := t.freq, pin := t.pin, pinWritten := t.pinWritten, ph := t.ph, tK := t.tK, tSc := t.tSc, ie := t.ie,
    cmp := t.cmp, tcr := t.tcr, dir := t.dir, lvl := t.lvl, history := t.history } := by
  cases h <;> rfl

theorem MicroStep.freq_writer :
    t.freq = s.freq ∨ (s.ph = .init1 ∧ t.freq = 0#16) ∨ (s.ph = .set2b ∧ t.freq = s.aFreq) := by
  cases h with
  | init1 hph => exact .inr (.inl ⟨hph, rfl⟩)
  | set2b hph => exact .inr (.inr ⟨hph, rfl⟩)
  | _ => exact .inl rfl

theorem MicroStep.pin_writer :
    (t.pin = s.pin ∧ t.pinWritten = s.pinWritten) ∨ (s.ph = .set1 ∧ t.recordedPin = some s.aPin) := by
  cases h with
  | set1Long hph => exact .inr ⟨hph, rfl⟩
  | set1Short hph => exact .inr ⟨hph, rfl⟩
  | _ => exact .inl ⟨rfl, rfl⟩

theorem MicroStep.scratch_writer : (t.tK = s.tK ∧ t.tSc = s.tSc) ∨ s.ph = .set2c := by
  cases h with
  | set2c hph => exact .inr hph
  | _ => exact .inl ⟨rfl, rfl⟩

theorem MicroStep.ie_writer :
    t.ie = s.ie ∨ (s.ph = .set3 ∧ t.ie = true) ∨ ((s.ph = .set2d ∨ s.ph = .stop1) ∧ t.ie = false) := by
  cases h with
  | set3 hph => exact .inr (.inl ⟨hph, rfl⟩)
  | set2d hph => exact .inr (.inr ⟨.inl hph, rfl⟩)
  | stop1 hph => exact .inr (.inr ⟨.inr hph, rfl⟩)
  | _ => exact .inl rfl

theorem MicroStep.cmp_writer : t.cmp = s.cmp ∨ (s.ph = .set2eCmp ∧ t.cmp = compareValue s.tSc) := by
  cases h with
  | set2eCmp hph => exact .inr ⟨hph, rfl⟩
  | _ => exact .inl rfl

theorem MicroStep.tcr_writer : t.tcr = s.tcr ∨ (s.ph = .set2eTcr ∧ t.tcr = controlValue s.tK) := by
  cases h with
  | set2eTcr hph => exact .inr ⟨hph, rfl⟩
  | _ => exact .inl rfl

theorem MicroStep.dir_writer :
    t.dir = s.dir ∨ ∃ p, s.ph = .set2aMode ∧ s.recordedPin = some p ∧ t.dir = s.dir.set p.toNat true := by
  cases h with
  | set2aMode hph hpin => exact .inr ⟨_, hph, hpin, rfl⟩
  | _ => exact .inl rfl

theorem MicroStep.lvl_writer :
    t.lvl = s.lvl ∨
      ∃ p, (s.ph = .set2aLow ∨ s.ph = .stop2) ∧ s.recordedPin = some p ∧ t.lvl = s.lvl.set p.toNat false := by
  cases h with
  | set2aLow hph hpin => exact .inr ⟨_, .inl hph, hpin, rfl⟩
  | stop2 hph hpin => exact .inr ⟨_, .inr hph, hpin, rfl⟩
  | _ => exact .inl rfl

/-- The event history is written by the five micro-steps that touch a pin or a timer register, one event each. -/
theorem MicroStep.history_writer :
    t.history = s.history ∨
      ((s.ph = .set2aMode ∨ s.ph = .set2aLow ∨ s.ph = .set2eCmp ∨ s.ph = .set2eTcr ∨ s.ph = .stop2) ∧
        ∃ e, t.history = s.history ++ [e]) := by
  cases h with
  | set2aMode hph => exact .inr ⟨by simp [hph], _, rfl⟩
  | set2aLow hph => exact .inr ⟨by simp [hph], _, rfl⟩
  | set2eCmp hph => exact .inr ⟨by simp [hph], _, rfl⟩
  | set2eTcr hph => exact .inr ⟨by simp [hph], _, rfl⟩
  | stop2 hph => exact .inr ⟨by simp [hph], _, rfl⟩
  | _ => exact .inl rfl

end MicroStep

/-! ### ACCEPT, and one TICK -/

/-- ACCEPT writes the latches and `PH` (R100). -/
theorem accept_frame {i : Instr} {s t : State} (h : exec i s = .next t) (hidle : s.ph = .idle) :
    t = { s with aPin := t.aPin, aFreq := t.aFreq, ph := t.ph } := by
  rcases exec_idle hidle h with ⟨-, rfl⟩ | ⟨p, f, -, -, rfl⟩ | ⟨p, -, rfl⟩ <;> rfl

/-- A TICK writes the counter, the divider and `MP` (R150). -/
theorem tick_frame (s : State) : tick s = { s with mp := (tick s).mp, cnt := (tick s).cnt, psc := (tick s).psc } := by
  unfold tick counterStep
  split <;> [split; skip] <;> rfl

/-- A TICK leaves `MP` alone unless the counter matches, and a match returns the counter to 0 (R150, R151). -/
theorem tick_mp_writer (s : State) :
    (tick s).mp = s.mp ∨ (s.cnt = s.cmp ∧ (tick s).cnt = 0#8 ∧ (tick s).mp = true) := by
  unfold tick counterStep
  split
  · split
    · exact .inr ⟨‹_›, rfl, rfl⟩
    · exact .inl rfl
  · exact .inl rfl

/-! ### One step of any agent -/

section AgentStep

variable {a : Agent} {s t : State} (h : AgentStep a s t)
include h

/-- What is not a latch, `PH`, `MP`, the counter, the divider, a level, the history or an input of the model is written by
a micro-step or not at all. -/
theorem AgentStep.micro_or_frame : (a = .seq ∧ MicroStep s t) ∨ t = { s with
    aPin := t.aPin, aFreq := t.aFreq, ph := t.ph, mp := t.mp, cnt := t.cnt, psc := t.psc, lvl := t.lvl,
    history := t.history, words := t.words } := by
  cases h with
  | disabled => exact .inr rfl
  | host hidle _ _ hexec => rw [accept_frame hexec hidle]; exact .inr rfl
  | seq _ hmicro => exact .inl ⟨rfl, hmicro⟩
  | tmr => rw [tick_frame]; exact .inr rfl
  | irq => exact .inr rfl

theorem AgentStep.mp_writer :
    t.mp = s.mp ∨ (a = .tmr ∧ s.tcr.getLsbD 7 = true ∧ s.cnt = s.cmp ∧ t.cnt = 0#8 ∧ t.mp = true) ∨
      (a = .irq ∧ s.ie = true ∧ t.mp = false) := by
  cases h with
  | disabled => exact .inl rfl
  | host hidle _ _ hexec => rw [accept_frame hexec hidle]; exact .inl rfl
  | seq _ hmicro => rw [hmicro.frame]; exact .inl rfl
  | tmr hrun =>
    rcases tick_mp_writer s with hkeep | hmatch
    · exact .inl hkeep
    · exact .inr (.inl ⟨rfl, hrun, hmatch⟩)
  | irq hie => exact .inr (.inr ⟨rfl, hie, rfl⟩)

theorem AgentStep.counter_writer : (t.cnt = s.cnt ∧ t.psc = s.psc) ∨ (a = .tmr ∧ s.tcr.getLsbD 7 = true) := by
  cases h with
  | disabled => exact .inl ⟨rfl, rfl⟩
  | host hidle _ _ hexec =>
    rw [accept_frame hexec hidle]
    exact .inl ⟨rfl, rfl⟩
  | seq _ hmicro => rw [hmicro.frame]; exact .inl ⟨rfl, rfl⟩
  | tmr hrun => exact .inr ⟨rfl, hrun⟩
  | irq => exact .inl ⟨rfl, rfl⟩

theorem AgentStep.lvl_writer :
    t.lvl = s.lvl ∨ ∃ p, s.recordedPin = some p ∧
      ((a = .seq ∧ (s.ph = .set2aLow ∨ s.ph = .stop2) ∧ t.lvl = s.lvl.set p.toNat false) ∨
        (a = .irq ∧ s.ie = true ∧ s.mp = true ∧ t.lvl = s.lvl.modify p.toNat not)) := by
  cases h with
  | disabled => exact .inl rfl
  | host hidle _ _ hexec => rw [accept_frame hexec hidle]; exact .inl rfl
  | seq _ hmicro =>
    rcases hmicro.lvl_writer with hkeep | ⟨p, hph, hpin, hlvl⟩
    · exact .inl hkeep
    · exact .inr ⟨p, hpin, .inl ⟨rfl, hph, hlvl⟩⟩
  | tmr => exact .inl (tick_lvl s)
  | irq hie hmp hpin => exact .inr ⟨_, hpin, .inr ⟨rfl, hie, hmp, rfl⟩⟩

theorem AgentStep.history_prefix : s.history <+: t.history := by
  cases h with
  | disabled => exact List.prefix_rfl
  | host hidle _ _ hexec => rw [accept_frame hexec hidle]
  | seq _ hmicro =>
    rcases hmicro.history_writer with hkeep | ⟨-, e, happend⟩
    · rw [hkeep]
    · rw [happend]; exact List.prefix_append ..
  | tmr => rw [tick_history]
  | irq => exact (List.prefix_append ..).trans (List.prefix_append ..)

end AgentStep

/-- A step of the machine, read from the state before the turn is spent: the registers of R39 that the sequencer alone
writes change in a micro-step or not at all. -/
theorem step_micro_or_frame {s t : State} (h : step s = .next t) :
    (nextAgent s = .seq ∧ MicroStep (spendTurn s) t) ∨ t = { s with
      aPin := t.aPin, aFreq := t.aFreq, ph := t.ph, mp := t.mp, cnt := t.cnt, psc := t.psc, lvl := t.lvl,
      history := t.history, words := t.words, sched := t.sched, turn := t.turn } := by
  obtain ⟨a, s', rfl, rfl, hagent⟩ := step_next h
  refine hagent.micro_or_frame.imp id fun hframe => hframe.trans ?_
  rw [hframe]
  simp

end Sys2Proof.Machine
end

section
/-! PROOFS. The frame of each command (R39): what one main-line step on its behalf leaves alone, in every phase. -/

namespace Sys2Proof.Machine

/-! ### What a main-line step of each command can be -/

theorem exec_init_next {s t : State} (h : exec .init s = .next t) :
    (s.ph = .idle ∧ t = s.goto .init1) ∨ (s.ph = .init1 ∧ t = { s with freq := 0 }.goto .idle) ∨ t = s := by
  simp only [exec, execInit] at h
  split at h
  · exact .inl ⟨‹_›, (Host.Outcome.next.inj h).symm⟩
  · exact .inr (.inl ⟨‹_›, (Host.Outcome.next.inj h).symm⟩)
  all_goals exact .inr (.inr (Host.Outcome.next.inj h).symm)

theorem exec_stoptone_next {s t : State} {q : PinIndex} (h : exec (.stoptone q) s = .next t) :
    (s.ph = .idle ∧ t = (s.latchPin q).goto .stop1) ∨ (s.ph = .stop1 ∧ t = (s.setIe false).goto .stop2) ∨
      (∃ p, s.ph = .stop2 ∧ s.recordedPin = some p ∧ t = (s.pinWrite p false).goto .idle) ∨ t = s := by
  simp only [exec, execStoptone] at h
  split at h
  · exact .inl ⟨‹_›, (Host.Outcome.next.inj h).symm⟩
  · exact .inr (.inl ⟨‹_›, (Host.Outcome.next.inj h).symm⟩)
  · obtain ⟨p, hpin, hp⟩ := withPin_next h
    exact .inr (.inr (.inl ⟨p, ‹_›, hpin, (Host.Outcome.next.inj hp).symm⟩))
  all_goals exact .inr (.inr (.inr (Host.Outcome.next.inj h).symm))

/-- In a phase of SETTONE, a main-line step on its behalf is the sequencer's (R27: the operands are the latches). -/
theorem exec_settone_eq_seqStep {s : State} (hown : s.ph.isSettone = true) (p : PinIndex) (f : Hertz) :
    exec (.settone p f) s = seqStep s := by
  simp only [seqStep, inProgress, exec, execSettone]
  cases hph : s.ph with
  | idle | init1 | stop1 | stop2 => rw [hph] at hown; cases hown
  | _ => rfl

/-- In a phase of another command SETTONE waits (R100). -/
theorem exec_settone_waits {s : State} (hbusy : s.ph ≠ .idle) (hforeign : s.ph.isSettone = false)
    (p : PinIndex) (f : Hertz) : exec (.settone p f) s = .next s := by
  simp only [exec, execSettone]
  cases hph : s.ph with
  | idle => exact absurd hph hbusy
  | init1 | stop1 | stop2 => rfl
  | _ => rw [hph] at hforeign; cases hforeign

theorem ph_ne_idle_of_isSettone {s : State} (hown : s.ph.isSettone = true) : s.ph ≠ .idle := by
  intro hidle
  rw [hidle] at hown
  cases hown

theorem exec_settone_next {s t : State} {p : PinIndex} {f : Hertz} (h : exec (.settone p f) s = .next t) :
    (s.ph = .idle ∧ t = ((s.latchPin p).latchFreq f).goto .set1) ∨ (s.ph.isSettone = true ∧ MicroStep s t) ∨
      t = s := by
  by_cases hidle : s.ph = .idle
  · rcases exec_idle hidle h with ⟨hi, -⟩ | ⟨_, _, hi, -, ht⟩ | ⟨_, hi, -⟩ <;> cases hi
    exact .inl ⟨hidle, ht⟩
  · cases hown : s.ph.isSettone with
    | true => exact .inr (.inl ⟨rfl, seqStep_next hidle (by rwa [exec_settone_eq_seqStep hown] at h)⟩)
    | false => exact .inr (.inr (Host.Outcome.next.inj ((exec_settone_waits hidle hown p f).symm.trans h)).symm)

/-! ### A micro-step drives no pin but the recorded one -/

theorem MicroStep.pins_of_ne {s t : State} (h : MicroStep s t) {q : Nat}
    (hq : ∀ r : PinIndex, s.recordedPin = some r → q ≠ r.toNat) :
    t.dir[q]? = s.dir[q]? ∧ t.lvl[q]? = s.lvl[q]? := by
  constructor
  · rcases h.dir_writer with hkeep | ⟨r, -, hpin, hdir⟩
    · rw [hkeep]
    · rw [hdir, List.getElem?_set_ne (hq r hpin).symm]
  · rcases h.lvl_writer with hkeep | ⟨r, -, hpin, hlvl⟩
    · rw [hkeep]
    · rw [hlvl, List.getElem?_set_ne (hq r hpin).symm]

/-! ### The statements -/

/-- Settles O13: ACCEPT, `INIT_1` or waiting. -/
theorem initFrame : Obligations.InitFrame := by
  unfold Obligations.InitFrame
  intro s t h
  rcases exec_init_next h with ⟨hidle, rfl⟩ | ⟨hph, rfl⟩ | rfl
  · exact ⟨rfl, fun hne => absurd rfl hne, fun _ => .inl hidle⟩
  · exact ⟨rfl, fun _ => ⟨hph, rfl⟩, fun _ => .inr hph⟩
  · exact ⟨rfl, fun hne => absurd rfl hne, fun hne => absurd rfl hne⟩

/-- Settles O28: ACCEPT, `STOP_1`, `STOP_2` or waiting. -/
theorem stoptoneFrame : Obligations.StoptoneFrame := by
  unfold Obligations.StoptoneFrame
  intro s t q h
  rcases exec_stoptone_next h with ⟨hidle, rfl⟩ | ⟨hph, rfl⟩ | ⟨p, hph, hpin, rfl⟩ | rfl
  · exact ⟨rfl, fun hne => absurd hidle hne, fun _ => rfl, fun _ => ⟨rfl, rfl⟩, fun _ _ => rfl⟩
  · exact ⟨rfl, fun _ => rfl, fun hne => absurd hph hne, fun _ => ⟨rfl, rfl⟩, fun _ _ => rfl⟩
  · exact ⟨rfl, fun _ => rfl, fun _ => rfl, fun hne => absurd hph hne,
      fun r hr => pinWrite_lvl_of_ne s p false (hr p hpin)⟩
  · exact ⟨rfl, fun _ => rfl, fun _ => rfl, fun _ => ⟨rfl, rfl⟩, fun _ _ => rfl⟩

/-- The registers of SETTONE, each written in its own phase: the micro-steps that also write one of them for another
command (`INIT_1`, `STOP_1`, `STOP_2`) are not SETTONE's. -/
theorem MicroStep.settone_writers {s t : State} (h : MicroStep s t) (hown : s.ph.isSettone = true) :
    (s.ph ≠ .set2b → t.freq = s.freq) ∧ (s.ph ≠ .set2d → s.ph ≠ .set3 → t.ie = s.ie) ∧
    (s.ph ≠ .set2aLow → t.lvl = s.lvl) ∧
    (s.ph ≠ .set2aMode → s.ph ≠ .set2aLow → s.ph ≠ .set2eCmp → s.ph ≠ .set2eTcr → t.history = s.history) := by
  have hinit1 : s.ph ≠ .init1 := by intro hph; rw [hph] at hown; cases hown
  have hstop1 : s.ph ≠ .stop1 := by intro hph; rw [hph] at hown; cases hown
  have hstop2 : s.ph ≠ .stop2 := by intro hph; rw [hph] at hown; cases hown
  refine ⟨fun hne => ?_, fun hne hne' => ?_, fun hne => ?_, fun hmode hlow hcmp htcr => ?_⟩
  · exact h.freq_writer.resolve_right (by simp [hinit1, hne])
  · exact h.ie_writer.resolve_right (by simp [hstop1, hne, hne'])
  · exact h.lvl_writer.resolve_right (by simp [hstop2, hne])
  · exact h.history_writer.resolve_right (by simp [hstop2, hmode, hlow, hcmp, htcr])

/-- Settles O23: ACCEPT writes the latches, waiting nothing, and each micro-step what its phase writes. -/
theorem settoneFrame : Obligations.SettoneFrame := by
  unfold Obligations.SettoneFrame
  intro s t p f h
  rcases exec_settone_next h with ⟨hidle, rfl⟩ | ⟨hown, hmicro⟩ | rfl
  · simp [hidle]
  · obtain ⟨hfreq, hie, hlvl, hhistory⟩ := hmicro.settone_writers hown
    refine ⟨?_, fun _ => ?_, fun hne => ?_, hfreq, fun hne => ?_, hie, fun hne => ?_, fun hne => ?_, fun hne => ?_, hlvl,
      hhistory, fun q hq => hmicro.pins_of_ne hq⟩
    · rw [hmicro.frame]; simp
    · rw [hmicro.frame]; simp
    · exact hmicro.pin_writer.resolve_right (by simp [hne])
    · exact hmicro.scratch_writer.resolve_right hne
    · exact hmicro.cmp_writer.resolve_right (by simp [hne])
    · exact hmicro.tcr_writer.resolve_right (by simp [hne])
    · exact hmicro.dir_writer.resolve_right (by simp [hne])
  · simp

end Sys2Proof.Machine
end

section
/-! PROOFS. The statements about every step of every agent (R21 to R39, R172), the handler's independence of the other
registers (R154), and the state after reset (R40). -/

namespace Sys2Proof.Machine

/-- Settles O46: outside a micro-step `IE` is framed; the three micro-steps that write it say which value. -/
theorem onlyThreePhasesWriteTheEnable : Obligations.OnlyThreePhasesWriteTheEnable := by
  unfold Obligations.OnlyThreePhasesWriteTheEnable
  intro s t hstep hne
  rcases step_micro_or_frame hstep with ⟨hturn, hmicro⟩ | hframe
  · have hwriter := hmicro.ie_writer
    simp only [spendTurn_ie, spendTurn_ph] at hwriter
    rcases hwriter with hkeep | ⟨hph, hon⟩ | ⟨hph, hoff⟩
    · exact absurd hkeep hne
    · exact ⟨hturn, fun _ => ⟨by simpa [hon] using hne, hph⟩, by simp [hon]⟩
    · exact ⟨hturn, by simp [hoff], fun _ => ⟨by simpa [hoff] using hne, hph⟩⟩
  · exact absurd (by rw [hframe]) hne

/-- Settles O47: a matching TICK raises `MP`, a dispatch clears it, and nothing else writes it. -/
theorem onlyMatchAndDispatchWriteThePendingFlag : Obligations.OnlyMatchAndDispatchWriteThePendingFlag := by
  unfold Obligations.OnlyMatchAndDispatchWriteThePendingFlag
  intro s t hstep hne
  obtain ⟨a, s', hturn, rfl, hagent⟩ := step_next hstep
  have hwriter := hagent.mp_writer
  simp only [spendTurn_mp, spendTurn_tcr, spendTurn_cnt, spendTurn_cmp, spendTurn_ie] at hwriter
  rcases hwriter with hkeep | ⟨rfl, hrun, hmatch, hcnt, hon⟩ | ⟨rfl, hie, hoff⟩
  · exact absurd hkeep hne
  · exact ⟨fun _ => ⟨hturn, hrun, hmatch, hcnt⟩, by simp [hon]⟩
  · exact ⟨by simp [hoff], fun _ => ⟨hturn, hie⟩⟩

/-- Settles O48: outside a micro-step both registers are framed. -/
theorem onlyTheirPhasesWriteFreqAndPin : Obligations.OnlyTheirPhasesWriteFreqAndPin := by
  unfold Obligations.OnlyTheirPhasesWriteFreqAndPin
  intro s t hstep
  rcases step_micro_or_frame hstep with ⟨hturn, hmicro⟩ | hframe
  · have hfreq := hmicro.freq_writer
    have hpin := hmicro.pin_writer
    simp only [spendTurn_freq, spendTurn_aFreq, spendTurn_pin, spendTurn_pinWritten, spendTurn_aPin,
      spendTurn_ph] at hfreq hpin
    exact ⟨fun hne => ⟨hturn, hfreq.resolve_left hne⟩, fun hne => ⟨hturn, hpin.resolve_left (by tauto)⟩⟩
  · exact ⟨fun hne => absurd (by rw [hframe]) hne,
      fun hne => hne.elim (absurd (by rw [hframe])) (absurd (by rw [hframe]))⟩

/-- Settles O49: the compare and control registers are framed outside a micro-step, the counter and the divider outside a
TICK. -/
theorem onlyTheirWritersWriteTheTimer : Obligations.OnlyTheirWritersWriteTheTimer := by
  unfold Obligations.OnlyTheirWritersWriteTheTimer
  intro s t hstep
  refine ⟨fun hne => ?_, fun hne => ?_, fun hne => ?_⟩
  · rcases step_micro_or_frame hstep with ⟨hturn, hmicro⟩ | hframe
    · have hwriter := hmicro.cmp_writer
      simp only [spendTurn_cmp, spendTurn_ph, spendTurn_tSc] at hwriter
      exact ⟨hturn, hwriter.resolve_left hne⟩
    · exact absurd (by rw [hframe]) hne
  · rcases step_micro_or_frame hstep with ⟨hturn, hmicro⟩ | hframe
    · have hwriter := hmicro.tcr_writer
      simp only [spendTurn_tcr, spendTurn_ph, spendTurn_tK] at hwriter
      exact ⟨hturn, hwriter.resolve_left hne⟩
    · exact absurd (by rw [hframe]) hne
  · obtain ⟨a, s', hturn, rfl, hagent⟩ := step_next hstep
    have hwriter := hagent.counter_writer
    simp only [spendTurn_cnt, spendTurn_psc, spendTurn_tcr] at hwriter
    obtain ⟨rfl, hrun⟩ := hwriter.resolve_left (by tauto)
    exact ⟨hturn, hrun⟩

/-- Settles O50: each writer of the pin bank writes the one entry of the recorded pin. -/
theorem onlyTheRecordedPinIsDriven : Obligations.OnlyTheRecordedPinIsDriven := by
  unfold Obligations.OnlyTheRecordedPinIsDriven
  intro s t q hstep
  refine ⟨fun hne => ?_, fun hne => ?_⟩
  · rcases step_micro_or_frame hstep with ⟨hturn, hmicro⟩ | hframe
    · have hwriter := hmicro.dir_writer
      simp only [spendTurn_dir, spendTurn_ph, spendTurn_recordedPin] at hwriter
      obtain ⟨p, hph, hpin, hdir⟩ := hwriter.resolve_left fun hkeep => hne (by rw [hkeep])
      rw [hdir] at hne ⊢
      obtain ⟨hq, hset⟩ := getElem?_set_changed hne
      exact ⟨hturn, hph, by rw [hpin, ← hq]; rfl, hset⟩
    · exact absurd (by rw [hframe]) hne
  · obtain ⟨a, s', hturn, rfl, hagent⟩ := step_next hstep
    have hwriter := hagent.lvl_writer
    simp only [spendTurn_lvl, spendTurn_ph, spendTurn_recordedPin, spendTurn_ie, spendTurn_mp] at hwriter
    obtain ⟨p, hpin, hwrite⟩ := hwriter.resolve_left fun hkeep => hne (by rw [hkeep])
    rcases hwrite with ⟨rfl, hph, hlvl⟩ | ⟨rfl, hie, hmp, hlvl⟩ <;> rw [hlvl] at hne ⊢
    · obtain ⟨hq, hset⟩ := getElem?_set_changed hne
      exact ⟨by rw [hpin, ← hq]; rfl, .inl ⟨hturn, hph, hset⟩⟩
    · obtain ⟨hq, hnot⟩ := getElem?_modify_changed hne
      exact ⟨by rw [hpin, ← hq]; rfl, .inr ⟨hturn, hie, hmp, hnot⟩⟩

/-! ### The records -/

/-- No step that answers a next state writes the parameters, the fault record or the refusal mark. -/
theorem step_keeps_records {s t : State} (h : step s = .next t) :
    t.cfg = s.cfg ∧ t.faults = s.faults ∧ t.refusal = s.refusal := by
  rcases step_micro_or_frame h with ⟨-, hmicro⟩ | hframe
  · rw [hmicro.frame]
    simp
  · rw [hframe]
    simp

theorem step_history_prefix {s t : State} (h : step s = .next t) : s.history <+: t.history := by
  obtain ⟨a, s', -, rfl, hagent⟩ := step_next h
  simpa only [spendTurn_history] using hagent.history_prefix

theorem advance_of_next {s t : State} (h : step s = .next t) : advance s = t := by
  simp only [advance, h]

theorem advance_of_fault {s : State} {r : Fault} (h : step s = .fault r) :
    advance s = recordFault (nextAgent s) r (spendTurn s) := by
  simp only [advance, h]

theorem advance_of_refused {s : State} {r : Refusal} (h : step s = .refused r) :
    advance s = recordRefusal (nextAgent s) r (spendTurn s) := by
  simp only [advance, h]

theorem advance_faults_of_fault {s : State} {r : Fault} (h : step s = .fault r) :
    (advance s).faults = s.faults ++ [r] := by
  rw [advance_of_fault h]
  simp [recordFault]

theorem not_final_of_faults {s : State} (h : s.faults ≠ []) : ¬ s.final := by
  rintro ⟨-, -, hfaults, -⟩
  exact h hfaults

/-- Settles O51: a next state keeps the records, a fault appends itself, a refusal sets the mark where none stands. -/
theorem recordsAreNeverCleared : Obligations.RecordsAreNeverCleared := by
  unfold Obligations.RecordsAreNeverCleared
  intro s
  have hfinal : ∀ r, step s = .fault r → (advance s).faults = s.faults ++ [r] ∧ ¬ (advance s).final := fun r hr =>
    ⟨advance_faults_of_fault hr, not_final_of_faults (by simp [advance_faults_of_fault hr])⟩
  suffices hgrow : (advance s).cfg = s.cfg ∧ s.faults <+: (advance s).faults ∧ s.history <+: (advance s).history ∧
      ∀ w, s.refusal = some w → (advance s).refusal = some w by
    obtain ⟨hcfg, hfaults, hhistory, hrefusal⟩ := hgrow
    exact ⟨hcfg, hfaults, hhistory, hrefusal, hfinal⟩
  cases hstep : step s with
  | next t =>
    obtain ⟨hcfg, hfaults, hrefusal⟩ := step_keeps_records hstep
    rw [advance_of_next hstep, hcfg, hfaults, hrefusal]
    exact ⟨rfl, List.prefix_rfl, step_history_prefix hstep, fun _ hw => hw⟩
  | fault r =>
    rw [advance_of_fault hstep]
    simp [recordFault]
  | refused r =>
    rw [advance_of_refused hstep]
    simp +contextual [recordRefusal]

/-! ### The handler, and reset -/

theorem agentStep_irq_of_recordedPin {s : State} {p : PinIndex} (hie : s.ie = true) (hmp : s.mp = true)
    (hpin : s.recordedPin = some p) : agentStep .irq s = .next ((s.clearMatch.record .dispatch).pinToggle p) := by
  rw [agentStep_irq ((enabled_irq_iff s).2 ⟨hie, hmp⟩), takeInterrupt, withPin_some hpin]

/-- Settles O45: whether the handler runs, and what it does, depends on `IE`, `MP` and `PIN` alone, which the other state
shares. -/
theorem handlerReadsOnlyThePin : Obligations.HandlerReadsOnlyThePin := by
  unfold Obligations.HandlerReadsOnlyThePin
  intro s t freq aFreq aPin ph cmp tcr cnt psc dir h
  cases agentStep_next h with
  | disabled hoff => exact agentStep_disabled hoff
  | irq hie hmp hpin => exact agentStep_irq_of_recordedPin hie hmp hpin

/-- Settles O55: all three resets are `State.resetWith` up to the model's inputs, which no register of the rule is. -/
theorem resetState : Obligations.ResetState := by
  unfold Obligations.ResetState
  intro s r hr
  have hform : ∃ c words sched turn, r = { State.resetWith c with words := words, sched := sched, turn := turn } := by
    rcases hr with rfl | ⟨c, rfl⟩ | rfl
    · exact ⟨Config.params, [], [], 0, rfl⟩
    · exact ⟨c, [], [], 0, rfl⟩
    · exact ⟨s.cfg, s.words, s.sched, s.turn, rfl⟩
  obtain ⟨c, words, sched, turn, rfl⟩ := hform
  exact ⟨rfl, rfl, rfl, rfl, rfl, rfl, rfl, rfl, rfl, rfl, rfl, rfl, rfl, rfl,
    fun p => List.getElem?_getD_replicate_default_eq false c.npins p, rfl, BitVec.getLsbD_zero, rfl⟩

end Sys2Proof.Machine
end

section
/-! PROOFS. The bracket of SETTONE (spec/20_memory.md R69): between the masking micro-step and `SET_3` the sequencer
writes only the two timer registers and the other agents only the counter, the divider and `MP`, so no dispatch falls
there (O56). -/

namespace Sys2Proof.Machine

/-! ### The turns of the other agents while the interrupt is masked -/

theorem runTurns_cons_next {a : Agent} {rest : List Agent} {s t : State} (h : runTurns (a :: rest) s = .next t) :
    ∃ u, AgentStep a s u ∧ runTurns rest u = .next t := by
  rw [runTurns] at h
  split at h
  · exact ⟨_, agentStep_next ‹_›, h⟩
  all_goals cases h

/-- R69: while a command is in progress and the interrupt is masked, an agent other than the sequencer writes no more than
a TICK does: the host waits, and no dispatch is enabled. -/
theorem AgentStep.masked_frame {a : Agent} {s t : State} (h : AgentStep a s t) (hother : a ≠ .seq)
    (hbusy : s.ph ≠ .idle) (hmasked : s.ie = false) : t = { s with mp := t.mp, cnt := t.cnt, psc := t.psc } := by
  cases h with
  | disabled => rfl
  | host hidle => exact absurd hidle hbusy
  | seq => exact absurd rfl hother
  | tmr => exact tick_frame s
  | irq hie => rw [hmasked] at hie; cases hie

/-- While the interrupt is masked a pending match stays pending (R30, R109). -/
theorem AgentStep.masked_keeps_mp {a : Agent} {s t : State} (h : AgentStep a s t) (hmasked : s.ie = false)
    (hmp : s.mp = true) : t.mp = true := by
  rcases h.mp_writer with hkeep | ⟨-, -, -, -, hmatch⟩ | ⟨-, hie, -⟩
  · rw [hkeep, hmp]
  · exact hmatch
  · rw [hmasked] at hie; cases hie

/-! ### The micro-steps of the bracket -/

section Bracket

variable {s t : State} (h : MicroStep s t)
include h

theorem MicroStep.eq_of_set2d (hph : s.ph = .set2d) : t = (s.setIe false).goto .set2eCmp := by
  cases h with
  | set2d => rfl
  | _ => simp_all only [reduceCtorEq]

theorem MicroStep.eq_of_set2eCmp (hph : s.ph = .set2eCmp) :
    t = (s.writeCmp (compareValue s.tSc)).goto .set2eTcr := by
  cases h with
  | set2eCmp => rfl
  | _ => simp_all only [reduceCtorEq]

theorem MicroStep.eq_of_set2eTcr (hph : s.ph = .set2eTcr) : t = (s.writeTcr (controlValue s.tK)).goto .set3 := by
  cases h with
  | set2eTcr => rfl
  | _ => simp_all only [reduceCtorEq]

end Bracket

/-- A busy block's sequencer takes a micro-step in its turn. -/
theorem AgentStep.microStep {s t : State} (h : AgentStep .seq s t) (hbusy : s.ph ≠ .idle) : MicroStep s t := by
  cases h with
  | disabled hoff => rw [(enabled_seq_iff s).2 hbusy] at hoff; cases hoff
  | seq _ hmicro => exact hmicro

/-- Every value of `TCR` that SETTONE writes has `RUN` set (R111). -/
theorem controlValue_run : ∀ k : BitVec 4, (controlValue k).getLsbD 7 = true := by
  decide

/-! ### What holds throughout the bracket -/

/-- The masked phases of SETTONE, with the number of micro-steps still to take before `SET_3`. -/
inductive AwaitsSet3 : Nat → State → Prop where
  | set2eCmp {s} : s.ph = .set2eCmp → AwaitsSet3 2 s
  | set2eTcr {s} : s.ph = .set2eTcr → AwaitsSet3 1 s
  | set3 {s} : s.ph = .set3 → AwaitsSet3 0 s

theorem AwaitsSet3.ph_ne_idle {n : Nat} {s : State} (h : AwaitsSet3 n s) : s.ph ≠ .idle := by
  cases h <;> simp [*]

theorem AwaitsSet3.of_ph_eq {n : Nat} {s t : State} (h : AwaitsSet3 n s) (hph : t.ph = s.ph) : AwaitsSet3 n t := by
  cases h with
  | set2eCmp hs => exact .set2eCmp (hph.trans hs)
  | set2eTcr hs => exact .set2eTcr (hph.trans hs)
  | set3 hs => exact .set3 (hph.trans hs)

/-- R69: since the state `s` the handler has been kept out, and the timer has neither been stopped nor lost a match. -/
structure HandlerKeptOut (s t : State) : Prop where
  /-- The interrupt is masked. -/
  masked : t.ie = false
  /-- No pin has been driven. -/
  levels : t.lvl = s.lvl
  /-- No dispatch has been recorded. -/
  dispatches : t.history.count .dispatch = s.history.count .dispatch
  /-- A match pending in `s` is still pending. -/
  pending : s.mp = true → t.mp = true
  /-- A timer that runs in `s` still runs. -/
  running : s.tcr.getLsbD 7 = true → t.tcr.getLsbD 7 = true

theorem HandlerKeptOut.of_set2d (s : State) : HandlerKeptOut s ((s.setIe false).goto .set2eCmp) where
  masked := rfl
  levels := rfl
  dispatches := rfl
  pending := id
  running := id

section HandlerKeptOut

variable {s u v : State} (h : HandlerKeptOut s u)
include h

theorem HandlerKeptOut.otherTurn {a : Agent} (hstep : AgentStep a u v) (hother : a ≠ .seq) (hbusy : u.ph ≠ .idle) :
    v.ph = u.ph ∧ HandlerKeptOut s v := by
  have hmp := hstep.masked_keeps_mp h.masked
  rw [hstep.masked_frame hother hbusy h.masked] at hmp ⊢
  exact ⟨rfl, { h with pending := fun hpending => hmp (h.pending hpending) }⟩

theorem HandlerKeptOut.writeCmp (c : TimerReg) (ph : Phase) : HandlerKeptOut s ((u.writeCmp c).goto ph) :=
  { h with dispatches := by simp [h.dispatches] }

theorem HandlerKeptOut.writeTcr (k : BitVec 4) (ph : Phase) :
    HandlerKeptOut s ((u.writeTcr (controlValue k)).goto ph) :=
  { h with
    dispatches := by simp [h.dispatches]
    running := fun _ => controlValue_run k }

theorem HandlerKeptOut.microStep {n : Nat} (hawaits : AwaitsSet3 (n + 1) u) (hmicro : MicroStep u v) :
    AwaitsSet3 n v ∧ HandlerKeptOut s v := by
  cases hawaits with
  | set2eCmp hph =>
    rw [hmicro.eq_of_set2eCmp hph]
    exact ⟨.set2eTcr rfl, h.writeCmp _ _⟩
  | set2eTcr hph =>
    rw [hmicro.eq_of_set2eTcr hph]
    exact ⟨.set3 rfl, h.writeTcr _ _⟩

end HandlerKeptOut

/-- The handler stays out through any list of turns in which the sequencer has no more than the micro-steps before
`SET_3`. -/
theorem HandlerKeptOut.turns {s u t : State} {n : Nat} {turns : List Agent} (h : HandlerKeptOut s u)
    (hawaits : AwaitsSet3 n u) (hcount : turns.count .seq ≤ n) (hrun : runTurns turns u = .next t) :
    HandlerKeptOut s t := by
  induction turns generalizing u n with
  | nil => cases hrun; exact h
  | cons a rest ih =>
    obtain ⟨v, hstep, hrest⟩ := runTurns_cons_next hrun
    by_cases hseq : a = .seq
    · subst hseq
      rw [List.count_cons_self] at hcount
      obtain ⟨m, rfl⟩ : ∃ m, n = m + 1 := Nat.exists_eq_add_of_le' (by omega)
      obtain ⟨hawaits', hkept⟩ := h.microStep hawaits (hstep.microStep hawaits.ph_ne_idle)
      exact ih hkept hawaits' (by omega) hrest
    · rw [List.count_cons_of_ne hseq] at hcount
      obtain ⟨hph, hkept⟩ := h.otherTurn hstep hseq hawaits.ph_ne_idle
      exact ih hkept (hawaits.of_ph_eq hph) hcount hrest

/-- Settles O56: the masking micro-step opens the bracket, and what holds in it is kept by every turn before `SET_3`. -/
theorem bracketKeepsTheHandlerOut : Obligations.BracketKeepsTheHandlerOut := by
  unfold Obligations.BracketKeepsTheHandlerOut
  intro s t turns hph hcount hrun
  obtain ⟨u, hstep, hrest⟩ := runTurns_cons_next hrun
  obtain rfl := (hstep.microStep (by simp [hph])).eq_of_set2d hph
  obtain ⟨hmasked, hlevels, hdispatches, hpending, hrunning⟩ :=
    (HandlerKeptOut.of_set2d s).turns (.set2eCmp rfl) hcount hrest
  exact ⟨hmasked, hlevels, hdispatches, hpending, hrunning⟩

end Sys2Proof.Machine
end

section
/-! PROOFS. The encoding (spec/30_encoding.md R80 to R90): a word is its four fields, the rows of the opcode table are
conditions on the fields, the decoder is the inverse of the encoder, and the statements O3, O4, O5 and O7. -/

namespace Sys2Proof

/-! ### A word and its fields -/

theorem eq_packFields_iff {w : CmdWord} {opc : BitVec 2} {rsv : BitVec 6} {pin : PinIndex} {freq : Hertz} :
    w = packFields opc rsv pin freq ↔
      fieldOpc w = opc ∧ fieldRsv w = rsv ∧ fieldPin w = pin ∧ fieldFreq w = freq := by
  constructor
  · rintro rfl
    exact ⟨fieldOpc_packFields .., fieldRsv_packFields .., fieldPin_packFields .., fieldFreq_packFields ..⟩
  · rintro ⟨rfl, rfl, rfl, rfl⟩
    exact (packFields_fields w).symm

theorem fieldOpc_and (v w : CmdWord) : fieldOpc (v &&& w) = fieldOpc v &&& fieldOpc w := BitVec.extractLsb'_and
theorem fieldRsv_and (v w : CmdWord) : fieldRsv (v &&& w) = fieldRsv v &&& fieldRsv w := BitVec.extractLsb'_and
theorem fieldPin_and (v w : CmdWord) : fieldPin (v &&& w) = fieldPin v &&& fieldPin w := BitVec.extractLsb'_and
theorem fieldFreq_and (v w : CmdWord) : fieldFreq (v &&& w) = fieldFreq v &&& fieldFreq w := BitVec.extractLsb'_and

theorem fieldPin_toNat (w : CmdWord) : (fieldPin w).toNat = w.toNat / 2 ^ 16 % 2 ^ 8 := by
  rw [fieldPin, BitVec.extractLsb'_toNat, Nat.shiftRight_eq_div_pow]

theorem fieldFreq_toNat (w : CmdWord) : (fieldFreq w).toNat = w.toNat % 2 ^ 16 := by
  rw [fieldFreq, BitVec.extractLsb'_toNat, Nat.shiftRight_zero]

/-! ### The rows of the opcode table (R84 to R86) -/

/-- A word matches a row when each of its fields does. -/
theorem matchesRow_packFields {w : CmdWord} {mOpc opc : BitVec 2} {mRsv rsv : BitVec 6} {mPin pin : PinIndex}
    {mFreq freq : Hertz} :
    matchesRow (packFields mOpc mRsv mPin mFreq) (packFields opc rsv pin freq) w = true ↔
      fieldOpc w &&& mOpc = opc ∧ fieldRsv w &&& mRsv = rsv ∧ fieldPin w &&& mPin = pin ∧
        fieldFreq w &&& mFreq = freq := by
  rw [matchesRow, beq_iff_eq, eq_packFields_iff, fieldOpc_and, fieldRsv_and, fieldPin_and, fieldFreq_and,
    fieldOpc_packFields, fieldRsv_packFields, fieldPin_packFields, fieldFreq_packFields]

theorem isInitWord_iff_fields (w : CmdWord) : isInitWord w = true ↔
    fieldOpc w = 0b00#2 ∧ fieldRsv w = 0#6 ∧ fieldPin w = 0#8 ∧ fieldFreq w = 0#16 := by
  have hmask : (0xFFFFFFFF : CmdWord) = packFields (.allOnes 2) (.allOnes 6) (.allOnes 8) (.allOnes 16) := by decide
  have hmatch : (0x00000000 : CmdWord) = packFields 0b00#2 0#6 0#8 0#16 := by decide
  rw [isInitWord, hmask, hmatch, matchesRow_packFields]
  simp only [BitVec.and_allOnes]

theorem isSettoneWord_iff_fields (w : CmdWord) : isSettoneWord w = true ↔
    fieldOpc w = 0b01#2 ∧ fieldRsv w = 0#6 := by
  have hmask : (0xFF000000 : CmdWord) = packFields (.allOnes 2) (.allOnes 6) 0#8 0#16 := by decide
  have hmatch : (0x40000000 : CmdWord) = packFields 0b01#2 0#6 0#8 0#16 := by decide
  rw [isSettoneWord, hmask, hmatch, matchesRow_packFields]
  simp only [BitVec.and_allOnes, BitVec.and_zero, and_true]

theorem isStoptoneWord_iff_fields (w : CmdWord) : isStoptoneWord w = true ↔
    fieldOpc w = 0b10#2 ∧ fieldRsv w = 0#6 ∧ fieldFreq w = 0#16 := by
  have hmask : (0xFF00FFFF : CmdWord) = packFields (.allOnes 2) (.allOnes 6) 0#8 (.allOnes 16) := by decide
  have hmatch : (0x80000000 : CmdWord) = packFields 0b10#2 0#6 0#8 0#16 := by decide
  rw [isStoptoneWord, hmask, hmatch, matchesRow_packFields]
  simp only [BitVec.and_allOnes, BitVec.and_zero, true_and]

/-- The four operation codes of R82. -/
theorem opc_cases : ∀ opc : BitVec 2, opc = 0b00#2 ∨ opc = 0b01#2 ∨ opc = 0b10#2 ∨ opc = 0b11#2 := by decide

/-- R87: the four cases of an illegal word. -/
theorem legalWord_eq_false_iff (w : CmdWord) : legalWord w = false ↔
    (fieldOpc w = 0b11#2 ∨ fieldRsv w ≠ 0#6 ∨ (fieldOpc w = 0b00#2 ∧ (fieldPin w ≠ 0#8 ∨ fieldFreq w ≠ 0#16)) ∨
      (fieldOpc w = 0b10#2 ∧ fieldFreq w ≠ 0#16)) := by
  have hrows : legalWord w = false ↔
      ¬ isInitWord w = true ∧ ¬ isSettoneWord w = true ∧ ¬ isStoptoneWord w = true := by
    simp [legalWord, and_assoc]
  rw [hrows, isInitWord_iff_fields, isSettoneWord_iff_fields, isStoptoneWord_iff_fields]
  by_cases hrsv : fieldRsv w = 0#6
  · rcases opc_cases (fieldOpc w) with hopc | hopc | hopc | hopc <;> simp [hopc, hrsv, imp_iff_not_or]
  · simp [hrsv]

/-! ### The decoder is the inverse of the encoder (R84 to R88) -/

theorem decode_encode (i : Instr) : decode (encode i) = .ok i := by
  cases i <;>
    simp [decode, encode, fieldOpc_packFields, fieldRsv_packFields, fieldPin_packFields, fieldFreq_packFields]

theorem eq_encode_of_decode {w : CmdWord} {i : Instr} (h : decode w = .ok i) : w = encode i := by
  unfold decode at h
  split_ifs at h with hreserved hrsv hinit hfields hsettone hfreq <;> cases h
  · exact eq_packFields_iff.mpr ⟨hinit, not_not.mp hrsv, hfields⟩
  · exact eq_packFields_iff.mpr ⟨hsettone, not_not.mp hrsv, rfl, rfl⟩
  · have hopc : fieldOpc w = 0b10#2 := by
      rcases opc_cases (fieldOpc w) with hopc | hopc | hopc | hopc
      · exact absurd hopc hinit
      · exact absurd hopc hsettone
      · exact hopc
      · exact absurd hopc hreserved
    exact eq_packFields_iff.mpr ⟨hopc, not_not.mp hrsv, rfl, hfreq⟩

theorem decode_eq_ok_iff {w : CmdWord} {i : Instr} : decode w = .ok i ↔ w = encode i :=
  ⟨eq_encode_of_decode, fun h => h ▸ decode_encode i⟩

theorem decode_init_iff (w : CmdWord) : decode w = .ok .init ↔ isInitWord w = true := by
  rw [decode_eq_ok_iff, encode, eq_packFields_iff, isInitWord_iff_fields]

theorem decode_settone_iff (w : CmdWord) :
    (∃ p f, decode w = .ok (.settone p f)) ↔ isSettoneWord w = true := by
  simp only [decode_eq_ok_iff, encode, eq_packFields_iff, isSettoneWord_iff_fields, exists_and_left, exists_eq',
    and_true]

theorem decode_stoptone_iff (w : CmdWord) :
    (∃ p, decode w = .ok (.stoptone p)) ↔ isStoptoneWord w = true := by
  simp only [decode_eq_ok_iff, encode, eq_packFields_iff, isStoptoneWord_iff_fields, exists_and_left,
    exists_and_right, exists_eq', true_and]

/-- The legal words are those that decode. -/
theorem legalWord_iff_decode (w : CmdWord) : legalWord w = true ↔ ∃ i, decode w = .ok i := by
  simp only [legalWord, Bool.or_eq_true, ← decode_init_iff, ← decode_settone_iff, ← decode_stoptone_iff]
  constructor
  · rintro ((h | ⟨p, f, h⟩) | ⟨p, h⟩) <;> exact ⟨_, h⟩
  · rintro ⟨i, h⟩
    cases i with
    | init => exact .inl (.inl h)
    | settone p f => exact .inl (.inr ⟨p, f, h⟩)
    | stoptone p => exact .inr ⟨p, h⟩

theorem decode_error_iff (w : CmdWord) : (∃ r, decode w = .error r) ↔ legalWord w = false := by
  rw [← Bool.not_eq_true, legalWord_iff_decode]
  cases decode w <;> simp

/-! ### The statements about words -/

/-- Settles O3: each row is the set of words that decode to its command, so a word of two rows would decode to both. -/
theorem everyWordIsOneCommandOrIllegal : Obligations.EveryWordIsOneCommandOrIllegal := by
  unfold Obligations.EveryWordIsOneCommandOrIllegal
  intro w
  refine ⟨decode_init_iff w, decode_settone_iff w, decode_stoptone_iff w, decode_error_iff w, ?_, ?_, ?_⟩ <;>
    simp only [← decode_init_iff, ← decode_settone_iff, ← decode_stoptone_iff]
  · rintro ⟨hinit, p, f, hsettone⟩
    cases hinit.symm.trans hsettone
  · rintro ⟨hinit, p, hstoptone⟩
    cases hinit.symm.trans hstoptone
  · rintro ⟨⟨p, f, hsettone⟩, q, hstoptone⟩
    cases hsettone.symm.trans hstoptone

/-- Settles O4: a decoded word is the word of its command, so the operands are its fields. -/
theorem operandsAreUnsignedFields : Obligations.OperandsAreUnsignedFields := by
  unfold Obligations.OperandsAreUnsignedFields
  refine fun w => ⟨fun p f h => ?_, fun p h => ?_⟩
  · obtain ⟨-, -, rfl, rfl⟩ := eq_packFields_iff.mp (eq_encode_of_decode h)
    exact ⟨fieldPin_toNat w, fieldFreq_toNat w⟩
  · obtain ⟨-, -, rfl, -⟩ := eq_packFields_iff.mp (eq_encode_of_decode h)
    exact fieldPin_toNat w

/-- Settles O5: the word packed from a command's fields, as a number. -/
theorem writtenFormsGiveTheirWords : Obligations.WrittenFormsGiveTheirWords := by
  unfold Obligations.WrittenFormsGiveTheirWords
  refine ⟨rfl, fun p f => ?_, fun p => ?_⟩ <;> rw [encode, packFields_toNat] <;> simp

end Sys2Proof

namespace Sys2Proof.Machine

/-! ### An illegal word on the host's turn (R87, R171) -/

theorem hostStep_of_illegal {s : State} {w : CmdWord} {ws : List CmdWord} (hwords : s.words = w :: ws)
    (hillegal : legalWord w = false) : hostStep s = .refused (.illegalWord w) := by
  obtain ⟨r, hdecode⟩ := (decode_error_iff w).mpr hillegal
  simp only [hostStep, hwords, hdecode]

/-- On the host's turn an idle block is presented the host's next word (R100). -/
theorem step_eq_hostStep {s : State} {w : CmdWord} {ws : List CmdWord} (hturn : nextAgent s = .host)
    (hwords : s.words = w :: ws) (hidle : s.ph = .idle) : step s = hostStep (spendTurn s) := by
  have hon : enabled .host (spendTurn s) = true := by
    rw [enabled_spendTurn, enabled_host_iff]
    exact ⟨hidle, by simp [hwords]⟩
  rw [step_eq_agentStep hturn, agentStep_host hon]

theorem step_of_illegal {s : State} {w : CmdWord} {ws : List CmdWord} (hturn : nextAgent s = .host)
    (hwords : s.words = w :: ws) (hidle : s.ph = .idle) (hillegal : legalWord w = false) :
    step s = .refused (.illegalWord w) := by
  rw [step_eq_hostStep hturn hwords hidle, hostStep_of_illegal (by rw [spendTurn_words, hwords]) hillegal]

/-- Settles O7: an illegal word does not decode, so the host's step is refused, and the records take the mark. -/
theorem illegalWordIsRefused : Obligations.IllegalWordIsRefused := by
  unfold Obligations.IllegalWordIsRefused
  refine ⟨legalWord_eq_false_iff, fun s w ws hturn hwords hidle hillegal => ?_⟩
  have hstep := step_of_illegal hturn hwords hidle hillegal
  refine ⟨hstep, ?_⟩
  rw [advance_of_refused hstep, hturn, recordRefusal, wordsAfterStop, spendTurn_words, spendTurn_refusal, hwords,
    List.tail_cons, Refusal.word?]

end Sys2Proof.Machine
end

section
/-! PROOFS. Each command micro-step by micro-step (spec/40_commands.md R100 to R118): the ACCEPT of each command, the
micro-step as the value of `exec`, what Calc's answer is, and the statements about single steps (O8, O11, O14 to O18,
O24, O29). -/

namespace Sys2Proof.Machine

/-! ### A micro-step is what the sequencer does -/

theorem MicroStep.ph_ne_idle {s t : State} (h : MicroStep s t) : s.ph ≠ .idle := by
  cases h <;> simp [*]

/-- The converse of `seqStep_next`. -/
theorem MicroStep.seqStep_eq {s t : State} (h : MicroStep s t) : seqStep s = .next t := by
  cases h with
  | set1Long hph hne => simp only [seqStep, inProgress, exec, execSettone, phaseSet1, hph, if_pos hne]
  | set1Short hph heq => simp only [seqStep, inProgress, exec, execSettone, phaseSet1, hph, if_neg (not_not.mpr heq)]
  | set2aMode hph hpin => simp only [seqStep, inProgress, exec, execSettone, phaseSet2aMode, hph, withPin_some hpin]
  | set2aLow hph hpin => simp only [seqStep, inProgress, exec, execSettone, phaseSet2aLow, hph, withPin_some hpin]
  | set2c hph hcalc => simp only [seqStep, inProgress, exec, execSettone, phaseSet2c, hph, hcalc]
  | stop2 hph hpin => simp only [seqStep, inProgress, exec, execStoptone, phaseStop2, hph, withPin_some hpin]
  | init1 hph | set2b hph | set2d hph | set2eCmp hph | set2eTcr hph | set3 hph | stop1 hph =>
    simp only [seqStep, inProgress, hph]
    simp only [exec, execInit, execSettone, execStoptone, hph]
    rfl

/-- A main-line step on behalf of SETTONE in a phase of SETTONE. -/
theorem MicroStep.exec_settone {s t : State} (h : MicroStep s t) {ph : Phase} (hph : s.ph = ph)
    (hown : ph.isSettone = true) (p : PinIndex) (f : Hertz) : exec (.settone p f) s = .next t := by
  rw [exec_settone_eq_seqStep (hph ▸ hown), h.seqStep_eq]

/-- In a phase of STOPTONE, a main-line step on its behalf is the sequencer's (R119: the operand is not read). -/
theorem exec_stoptone_eq_seqStep {s : State} (hown : s.ph = .stop1 ∨ s.ph = .stop2) (q : PinIndex) :
    exec (.stoptone q) s = seqStep s := by
  rcases hown with hph | hph <;> simp only [seqStep, inProgress, exec, execStoptone, hph]

theorem seqStep_stop2_of_none {s : State} (hph : s.ph = .stop2) (hpin : s.recordedPin = none) :
    seqStep s = .fault .pinUnwritten := by
  simp only [seqStep, inProgress, exec, execStoptone, phaseStop2, hph, withPin_none hpin]

/-! ### ACCEPT (R100, R101) -/

theorem exec_init_idle {s : State} (hidle : s.ph = .idle) : exec .init s = .next (s.goto .init1) := by
  simp only [exec, execInit, acceptInit, hidle]

theorem exec_stoptone_idle {s : State} (hidle : s.ph = .idle) (q : PinIndex) :
    exec (.stoptone q) s = .next ((s.latchPin q).goto .stop1) := by
  simp only [exec, execStoptone, acceptStoptone, hidle]

theorem exec_settone_of_fault {s : State} (hidle : s.ph = .idle) {p : PinIndex} {f : Hertz} {r : Fault}
    (hfault : settoneFault? s.cfg p f = some r) : exec (.settone p f) s = .fault r := by
  simp only [exec, execSettone, acceptSettone, hidle, hfault]

theorem exec_settone_of_valid {s : State} (hidle : s.ph = .idle) {p : PinIndex} {f : Hertz}
    (hvalid : settoneFault? s.cfg p f = none) :
    exec (.settone p f) s = .next (((s.latchPin p).latchFreq f).goto .set1) := by
  simp only [exec, execSettone, acceptSettone, hidle, hvalid]

section Precondition

variable {c : Params} {p : PinIndex} {f : Hertz}

theorem settoneFault?_of_pinInvalid (hpin : c.npins ≤ p.toNat) : settoneFault? c p f = some (.pinInvalid p) :=
  if_pos hpin

theorem settoneFault?_of_freqZero (hpin : p.toNat < c.npins) (hzero : f = 0#16) :
    settoneFault? c p f = some .freqZero := by
  rw [settoneFault?, if_neg (Nat.not_le.mpr hpin), if_pos hzero]

theorem settoneFault?_of_ne_zero (hpin : p.toNat < c.npins) (hne : f ≠ 0#16) :
    settoneFault? c p f = calcFault? c f := by
  rw [settoneFault?, if_neg (Nat.not_le.mpr hpin), if_neg hne]

/-- `Calc` answers only for a frequency other than 0 (R130, R137). -/
theorem ne_zero_of_toneCalc {r : BitVec 4 × BitVec 8} (hcalc : toneCalc c f = .ok r) : f ≠ 0#16 := by
  rintro rfl
  cases hcalc

/-- R101: a pin of the device and a frequency for which `Calc` answers are valid operands. -/
theorem settoneFault?_of_toneCalc {r : BitVec 4 × BitVec 8} (hpin : p.toNat < c.npins)
    (hcalc : toneCalc c f = .ok r) : settoneFault? c p f = none := by
  rw [settoneFault?_of_ne_zero hpin (ne_zero_of_toneCalc hcalc), calcFault?, hcalc]

end Precondition

/-! ### The scaled count is from 1 to 255 (R133, R139) -/

theorem prescalerSearch_scaled_le {count rounds k : Nat} (hcount : count < 2 ^ (k + rounds + 8)) :
    count >>> prescalerSearch rounds count k ≤ 255 := by
  induction rounds generalizing k with
  | zero =>
    rw [prescalerSearch, Nat.shiftRight_eq_div_pow, ← Nat.lt_succ_iff, Nat.div_lt_iff_lt_mul (by positivity)]
    rw [pow_add, Nat.mul_comm] at hcount
    exact hcount
  | succ rounds ih =>
    rw [prescalerSearch]
    split
    · exact ih (by rwa [show k + 1 + rounds + 8 = k + (rounds + 1) + 8 by omega])
    · omega

theorem prescalerSearch_scaled_pos {count rounds k : Nat} (hpos : 1 ≤ count >>> k) :
    1 ≤ count >>> prescalerSearch rounds count k := by
  induction rounds generalizing k with
  | zero => exact hpos
  | succ rounds ih =>
    rw [prescalerSearch]
    split
    · exact ih (by rw [Nat.shiftRight_succ]; omega)
    · exact hpos

/-- The clock is below `2^32` (R6), so the count is below `2^31`. -/
theorem halfPeriodCount_lt (c : Params) (f : Hertz) : halfPeriodCount c f < 2 ^ 31 := by
  have hclock : c.timerClock < 2 ^ 32 := by
    have := c.clockPred.isLt
    rw [Params.timerClock]
    omega
  have hdiv : c.timerClock / f.toNat ≤ c.timerClock := Nat.div_le_self ..
  rw [halfPeriodCount]
  omega

/-- What `Calc` answers, when it does (R130). -/
theorem toneCalc_eq_ok {c : Params} {f : Hertz} {k : BitVec 4} {sc : BitVec 8} (h : toneCalc c f = .ok (k, sc)) :
    f ≠ 0#16 ∧ halfPeriodCount c f ≠ 0 ∧ prescalerSearch searchRounds (halfPeriodCount c f) 0 < c.nps ∧
      k = BitVec.ofNat 4 (prescalerSearch searchRounds (halfPeriodCount c f) 0) ∧
      sc = BitVec.ofNat 8 (scaledCount (halfPeriodCount c f)
        (prescalerSearch searchRounds (halfPeriodCount c f) 0)) := by
  unfold toneCalc at h
  split_ifs at h with hzero
  dsimp only at h
  split_ifs at h with hcount hnps
  cases h
  exact ⟨hzero, hcount, Nat.not_le.mp hnps, rfl, rfl⟩

theorem one_le_scaled_of_toneCalc {c : Params} {f : Hertz} {k : BitVec 4} {sc : BitVec 8}
    (h : toneCalc c f = .ok (k, sc)) : 1 ≤ sc.toNat := by
  obtain ⟨-, hcount, -, -, rfl⟩ := toneCalc_eq_ok h
  have hpos := prescalerSearch_scaled_pos (count := halfPeriodCount c f) (rounds := searchRounds) (k := 0)
    (Nat.one_le_iff_ne_zero.mpr hcount)
  have hle := prescalerSearch_scaled_le (count := halfPeriodCount c f) (rounds := searchRounds) (k := 0)
    ((halfPeriodCount_lt c f).trans_le (Nat.pow_le_pow_right (by omega) (by decide)))
  rw [scaledCount, BitVec.toNat_ofNat]
  omega

/-! ### The statements about ACCEPT -/

/-- Settles O8: an idle block on the host's turn runs `exec` of the decoded word, which each command's ACCEPT answers; a
busy block's host is disabled. -/
theorem acceptTakesOneCommand : Obligations.AcceptTakesOneCommand := by
  unfold Obligations.AcceptTakesOneCommand
  intro s w ws hturn hwords
  have hexec {i : Instr} (hidle : s.ph = .idle) (hdecode : decode w = .ok i) :
      step s = exec i { spendTurn s with words := ws } := stepRunsTheCommand.1 s w ws i hturn hwords hidle hdecode
  have hspent (hidle : s.ph = .idle) : ({ spendTurn s with words := ws } : State).ph = .idle := by
    rw [← hidle]
    exact spendTurn_ph s
  have hcfg : ({ spendTurn s with words := ws } : State).cfg = s.cfg := spendTurn_cfg s
  refine ⟨step_of_illegal hturn hwords, fun hidle hdecode => ?_,
    fun hidle p f hdecode => ⟨fun r hfault => ?_, fun hvalid => ?_⟩, fun hidle p hdecode => ?_, fun hbusy => ?_⟩
  · rw [hexec hidle hdecode, exec_init_idle (hspent hidle)]
    rfl
  · rw [hexec hidle hdecode, exec_settone_of_fault (hspent hidle) (by rwa [hcfg])]
  · rw [hexec hidle hdecode, exec_settone_of_valid (hspent hidle) (by rwa [hcfg])]
    rfl
  · rw [hexec hidle hdecode, exec_stoptone_idle (hspent hidle)]
    rfl
  · refine step_disabled hturn ?_
    rw [enabled_host_iff]
    exact fun hon => hbusy hon.1

/-- Settles O11: placing the word makes the next step the host's ACCEPT of it. -/
theorem placedWordRunsNext : Obligations.PlacedWordRunsNext := by
  unfold Obligations.PlacedWordRunsNext
  intro s w i hdecode
  have hword : BitVec.ofNat 32 (w.toNat % 2 ^ 32) = w := by
    rw [Nat.mod_eq_of_lt w.isLt, BitVec.ofNat_toNat, BitVec.setWidth_eq]
  exact stepRunsTheCommand.1 (s.withFetchWord 32 w.toNat) _ s.words i rfl rfl rfl (by rw [hword, hdecode])

/-- Settles O14: the three faults in their order, the ACCEPT of valid operands, and the stored frequency, for which the
invariant says that `Calc` answers. -/
theorem settonePreconditionOrder : Obligations.SettonePreconditionOrder := by
  unfold Obligations.SettonePreconditionOrder
  refine ⟨fun s p f hidle => ⟨fun hpin => ?_, fun hpin hzero => ?_, fun r hpin hne hcalc => ?_,
    fun r hpin _ hcalc => ?_⟩, fun s p hinv hne hpin => ?_⟩
  · exact exec_settone_of_fault hidle (settoneFault?_of_pinInvalid hpin)
  · exact exec_settone_of_fault hidle (settoneFault?_of_freqZero hpin hzero)
  · exact exec_settone_of_fault hidle (by rw [settoneFault?_of_ne_zero hpin hne, calcFault?, hcalc])
  · exact exec_settone_of_valid hidle (settoneFault?_of_toneCalc hpin hcalc)
  · obtain ⟨k, sc, hcalc⟩ := hinv.freqValid hne
    exact settoneFault?_of_toneCalc hpin hcalc

/-! ### The statements about the micro-steps of SETTONE -/

/-- Settles O15: the two micro-steps of `SET_1`. -/
theorem settoneRecordsThePin : Obligations.SettoneRecordsThePin := by
  unfold Obligations.SettoneRecordsThePin
  intro s p f hph
  exact ⟨fun hne => (MicroStep.set1Long hph hne).exec_settone hph rfl p f,
    fun heq => (MicroStep.set1Short hph heq).exec_settone hph rfl p f⟩

/-- Settles O16: the micro-steps of `SET_2A_MODE` and `SET_2A_LOW`, and the invariant's clause about the recorded
pin. -/
theorem settoneMakesThePinALowOutput : Obligations.SettoneMakesThePinALowOutput := by
  unfold Obligations.SettoneMakesThePinALowOutput
  refine ⟨fun s p f q hph hpin => ?_, fun s p f q hph hpin => ?_, fun s hinv hph => hinv.recorded ?_⟩
  · exact (MicroStep.set2aMode hph hpin).exec_settone hph rfl p f
  · exact (MicroStep.set2aLow hph hpin).exec_settone hph rfl p f
  · rcases hph with hph | hph <;> rw [hph] <;> rfl

/-- In `SET_2C` the frequency stored is the valid operand (R101, R107). -/
theorem State.Inv.validFreq_of_set2c {s : State} (hinv : s.Inv) (hph : s.ph = .set2c) : ValidFreq s.cfg s.freq := by
  rw [hinv.stored (by rw [hph]; rfl)]
  exact hinv.latchFreq (by rw [hph]; rfl)

/-- Settles O17: the micro-steps of `SET_2B` and `SET_2C`. -/
theorem settoneStoresThenComputes : Obligations.SettoneStoresThenComputes := by
  unfold Obligations.SettoneStoresThenComputes
  refine ⟨fun s p f hph => ?_, fun s p f k sc hph hcalc => ?_, fun s hinv hph => hinv.validFreq_of_set2c hph⟩
  · exact (MicroStep.set2b hph).exec_settone hph rfl p f
  · exact (MicroStep.set2c hph hcalc).exec_settone hph rfl p f

theorem controlValue_toNat (k : BitVec 4) : (controlValue k).toNat = 128 + k.toNat := by
  rw [controlValue]
  bv_omega

/-- Settles O18: the micro-steps from `SET_2D` to `SET_3`; the scaled count that the invariant holds in the scratch register
is `Calc`'s, so 1 can be taken from it. -/
theorem settoneReprogramsInsideTheBracket : Obligations.SettoneReprogramsInsideTheBracket := by
  unfold Obligations.SettoneReprogramsInsideTheBracket
  refine fun s p f => ⟨fun hph => ?_, fun hph => ?_, fun hph hinv => ?_, fun hph => ?_, controlValue_toNat s.tK,
    fun hph => ?_⟩
  · exact (MicroStep.set2d hph).exec_settone hph rfl p f
  · exact (MicroStep.set2eCmp hph).exec_settone hph rfl p f
  · have hpos : 1 ≤ s.tSc.toNat := one_le_scaled_of_toneCalc (hinv.scratch (by rw [hph]; rfl))
    exact ⟨hpos, by bv_omega⟩
  · exact (MicroStep.set2eTcr hph).exec_settone hph rfl p f
  · exact (MicroStep.set3 hph).exec_settone hph rfl p f

/-! ### The statements about STOPTONE and about waiting -/

/-- Settles O24: ACCEPT, and the micro-steps of `STOP_1` and `STOP_2` with the fault of the latter. -/
theorem stoptoneMasksThenDrivesLow : Obligations.StoptoneMasksThenDrivesLow := by
  unfold Obligations.StoptoneMasksThenDrivesLow
  refine fun s q => ⟨fun hidle => exec_stoptone_idle hidle q, fun hph => ?_, fun p hph hpin => ?_, fun hph hpin => ?_⟩
  · rw [exec_stoptone_eq_seqStep (.inl hph), (MicroStep.stop1 hph).seqStep_eq]
    rfl
  · rw [exec_stoptone_eq_seqStep (.inr hph), (MicroStep.stop2 hph hpin).seqStep_eq]
    rfl
  · rw [exec_stoptone_eq_seqStep (.inr hph), seqStep_stop2_of_none hph hpin]

/-- Settles O29: the arms of each command for the phases that are not its own. -/
theorem busyCommandWaits : Obligations.BusyCommandWaits := by
  unfold Obligations.BusyCommandWaits
  refine ⟨fun s hbusy hforeign => ?_, fun s p f hbusy hforeign => exec_settone_waits hbusy hforeign p f,
    fun s p hbusy hstop1 hstop2 => ?_⟩
  · simp only [exec, execInit]
    cases hph : s.ph with
    | idle => exact absurd hph hbusy
    | init1 => exact absurd hph hforeign
    | _ => rfl
  · simp only [exec, execStoptone]
    cases hph : s.ph with
    | idle => exact absurd hph hbusy
    | stop1 => exact absurd hph hstop1
    | stop2 => exact absurd hph hstop2
    | _ => rfl

end Sys2Proof.Machine
end

section
/-! PROOFS. A command run whole (spec/40_commands.md R102, R113 to R120): a counted run of micro-steps is what
`seqRun` does, the net effect of each command, and the statements about whole commands (O12, O19, O21, O22, O25,
O26). -/

namespace Sys2Proof.Machine

/-! ### Runs of a counted number of steps -/

/-- `n` steps of the relation `R` lead from the first state to the second. -/
inductive Steps (R : State → State → Prop) : Nat → State → State → Prop where
  | done {s} : Steps R 0 s s
  | step {n s t u} : R s t → Steps R n t u → Steps R (n + 1) s u

theorem Steps.mono {R S : State → State → Prop} (himp : ∀ {s t}, R s t → S s t) {n : Nat} {s u : State}
    (h : Steps R n s u) : Steps S n s u := by
  induction h with
  | done => exact .done
  | step hstep _ ih => exact .step (himp hstep) ih

theorem Steps.trans {R : State → State → Prop} {m n : Nat} {s t u : State} (h : Steps R m s t) (h' : Steps R n t u) :
    Steps R (n + m) s u := by
  induction h with
  | done => exact h'
  | step hstep _ ih => exact .step hstep (ih h')

/-! ### Micro-steps alone: `seqRun` and `runCommand` -/

theorem seqRun_of_idle {s : State} (hidle : s.ph = .idle) (n : Nat) : seqRun n s = .next s := by
  cases n with
  | zero => rfl
  | succ n => rw [seqRun, if_pos ((cmdReady_iff s).mpr hidle)]

theorem seqRun_of_next {s t : State} (hbusy : s.ph ≠ .idle) (h : seqStep s = .next t) (n : Nat) :
    seqRun (n + 1) s = seqRun n t := by
  rw [seqRun, if_neg (by rwa [cmdReady_iff]), h]

theorem seqRun_of_fault {s : State} {r : Fault} (hbusy : s.ph ≠ .idle) (h : seqStep s = .fault r) (n : Nat) :
    seqRun (n + 1) s = .fault r := by
  rw [seqRun, if_neg (by rwa [cmdReady_iff]), h]

theorem Steps.seqRun_add {n : Nat} {s t : State} (h : Steps MicroStep n s t) (m : Nat) :
    seqRun (n + m) s = seqRun m t := by
  induction h with
  | done => rw [Nat.zero_add]
  | step hmicro _ ih => rw [Nat.succ_add, seqRun_of_next hmicro.ph_ne_idle hmicro.seqStep_eq, ← ih]

/-- A command whose micro-steps reach `IDLE` runs to its end. -/
theorem Steps.seqRun_eq {n m : Nat} {s t : State} (h : Steps MicroStep n s t) (hidle : t.ph = .idle) (hle : n ≤ m) :
    seqRun m s = .next t := by
  obtain ⟨k, rfl⟩ := Nat.exists_eq_add_of_le hle
  rw [h.seqRun_add, seqRun_of_idle hidle]

/-- A command whose micro-steps reach a fault faults. -/
theorem Steps.seqRun_fault {n m : Nat} {s t : State} {r : Fault} (h : Steps MicroStep n s t) (hbusy : t.ph ≠ .idle)
    (hfault : seqStep t = .fault r) (hlt : n < m) : seqRun m s = .fault r := by
  obtain ⟨k, rfl⟩ := Nat.exists_eq_add_of_lt hlt
  rw [Nat.add_assoc, h.seqRun_add, seqRun_of_fault hbusy hfault]

theorem runCommand_of_exec {i : Instr} {s t : State} (h : exec i s = .next t) : runCommand i s = seqRun 9 t := by
  rw [runCommand, h]

theorem State.goto_of_ph_eq {s : State} {ph : Phase} (h : s.ph = ph) : s.goto ph = s := by
  subst h
  rfl

/-! ### The net effect of SETTONE (R113) -/

/-- R113, long path: the state after SETTONE of the pin `p` at the frequency `f`, for which `Calc` answers `(k, sc)`. -/
def State.retuned (s : State) (p : PinIndex) (f : Hertz) (k : BitVec 4) (sc : BitVec 8) : State :=
  { s with
    aPin := p, aFreq := f, pin := p, pinWritten := true, dir := s.dir.set p.toNat true,
    lvl := s.lvl.set p.toNat false, freq := f, tK := k, tSc := sc, ie := true, cmp := compareValue sc,
    tcr := controlValue k,
    history := s.history ++ [.pinMode p, .pinWrite p false, .cmpWrite (compareValue sc), .tcrWrite (controlValue k)] }

/-- R113, short path: the state after SETTONE of the pin `p` at the frequency `f` that is already programmed. -/
def State.retargeted (s : State) (p : PinIndex) (f : Hertz) : State :=
  { s with aPin := p, aFreq := f, pin := p, pinWritten := true, ie := true }

/-- A micro-step that writes neither `CMP` nor `TCR`. -/
def QuietStep (s t : State) : Prop := MicroStep s t ∧ t.cmp = s.cmp ∧ t.tcr = s.tcr

/-- `SET_1` to `SET_2B` on the long path (R104 to R107): the pin is recorded, made an output and driven low, and the
frequency is stored. -/
theorem settone_pin_steps {s : State} (hph : s.ph = .set1) (hne : s.aFreq ≠ s.freq) :
    Steps MicroStep 4 s { s with
      pin := s.aPin, pinWritten := true, dir := s.dir.set s.aPin.toNat true, lvl := s.lvl.set s.aPin.toNat false,
      freq := s.aFreq, history := s.history ++ [.pinMode s.aPin] ++ [.pinWrite s.aPin false], ph := .set2c } :=
  .step (.set1Long hph hne) <| .step (.set2aMode rfl rfl) <| .step (.set2aLow rfl rfl) <| .step (.set2b rfl) .done

/-- `SET_2C` to `SET_3` (R108 to R112): the timer is programmed with what `Calc` answers, and the interrupt is
enabled. -/
theorem settone_timer_steps {s : State} (hph : s.ph = .set2c) {k : BitVec 4} {sc : BitVec 8}
    (hcalc : toneCalc s.cfg s.freq = .ok (k, sc)) :
    Steps MicroStep 5 s { s with
      tK := k, tSc := sc, ie := true, cmp := compareValue sc, tcr := controlValue k,
      history := s.history ++ [.cmpWrite (compareValue sc), .tcrWrite (controlValue k)], ph := .idle } := by
  have hsteps : Steps MicroStep 5 s _ :=
    .step (.set2c hph hcalc) <| .step (.set2d rfl) <| .step (.set2eCmp rfl) <| .step (.set2eTcr rfl) <|
      .step (.set3 rfl) .done
  simpa only [State.goto, State.setIe, State.writeCmp, State.writeTcr, State.record, List.append_assoc,
    List.cons_append, List.nil_append] using hsteps

section Settone

variable {s : State} (hidle : s.ph = .idle) (p : PinIndex) {f : Hertz}
include hidle

/-- The nine micro-steps of the long path (R103). -/
theorem settone_long_steps {k : BitVec 4} {sc : BitVec 8} (hcalc : toneCalc s.cfg f = .ok (k, sc))
    (hne : f ≠ s.freq) :
    Steps MicroStep 9 (((s.latchPin p).latchFreq f).goto .set1) (s.retuned p f k sc) := by
  have hpin := settone_pin_steps (s := ((s.latchPin p).latchFreq f).goto .set1) rfl hne
  simpa [State.retuned, hidle] using hpin.trans (settone_timer_steps rfl hcalc)

/-- The two micro-steps of the short path (R104, R112). -/
theorem settone_short_steps (heq : f = s.freq) :
    Steps QuietStep 2 (((s.latchPin p).latchFreq f).goto .set1) (s.retargeted p f) := by
  rw [← State.goto_of_ph_eq (s := s.retargeted p f) hidle]
  exact .step ⟨.set1Short rfl heq, rfl, rfl⟩ <| .step ⟨.set3 rfl, rfl, rfl⟩ .done

variable {p} (hpin : p.toNat < s.cfg.npins) {k : BitVec 4} {sc : BitVec 8} (hcalc : toneCalc s.cfg f = .ok (k, sc))
include hpin hcalc

theorem exec_settone_accepts : exec (.settone p f) s = .next (((s.latchPin p).latchFreq f).goto .set1) :=
  exec_settone_of_valid hidle (settoneFault?_of_toneCalc hpin hcalc)

theorem runCommand_settone_long (hne : f ≠ s.freq) : runCommand (.settone p f) s = .next (s.retuned p f k sc) := by
  rw [runCommand_of_exec (exec_settone_accepts hidle hpin hcalc)]
  exact (settone_long_steps hidle p hcalc hne).seqRun_eq hidle le_rfl

theorem runCommand_settone_short (heq : f = s.freq) : runCommand (.settone p f) s = .next (s.retargeted p f) := by
  rw [runCommand_of_exec (exec_settone_accepts hidle hpin hcalc)]
  exact ((settone_short_steps hidle p heq).mono And.left).seqRun_eq hidle (by decide)

end Settone

/-- Settles O19: the ACCEPT, and the micro-steps of each path. -/
theorem settoneCompletes : Obligations.SettoneCompletes := by
  unfold Obligations.SettoneCompletes
  intro s p f k sc hidle hpin hcalc
  exact ⟨exec_settone_accepts hidle hpin hcalc, runCommand_settone_long hidle hpin hcalc,
    runCommand_settone_short hidle hpin hcalc⟩

/-! ### One SETTONE after another (R114, R115) -/

/-- What a completed SETTONE leaves, on either path, for the next one. -/
structure Tuned (c : Params) (p : PinIndex) (f : Hertz) (t : State) : Prop where
  /-- The parameters are `c`. -/
  cfg : t.cfg = c
  /-- The block is idle. -/
  ph : t.ph = .idle
  /-- The frequency `f` is stored. -/
  freq : f = t.freq
  /-- The frequency `f` is latched. -/
  aFreq : t.aFreq = f
  /-- The interrupt is enabled. -/
  ie : t.ie = true
  /-- The pin `p` is recorded. -/
  recordedPin : t.recordedPin = some p

theorem runCommand_settone_tuned {s : State} {p : PinIndex} {f : Hertz} (hidle : s.ph = .idle)
    (hpin : p.toNat < s.cfg.npins) (hvalid : ValidFreq s.cfg f) :
    ∃ t, runCommand (.settone p f) s = .next t ∧ Tuned s.cfg p f t := by
  obtain ⟨k, sc, hcalc⟩ := hvalid
  by_cases hfreq : f = s.freq
  · exact ⟨_, runCommand_settone_short hidle hpin hcalc hfreq, rfl, hidle, hfreq, rfl, rfl, rfl⟩
  · exact ⟨_, runCommand_settone_long hidle hpin hcalc hfreq, rfl, hidle, rfl, rfl, rfl, rfl⟩

/-- R115: a SETTONE of any pin at the frequency just tuned takes the short path. -/
theorem Tuned.runCommand_settone {c : Params} {a b : PinIndex} {f : Hertz} {t : State} (h : Tuned c a f t)
    (hpin : b.toNat < c.npins) (hvalid : ValidFreq c f) :
    runCommand (.settone b f) t = .next { t with aPin := b, pin := b, pinWritten := true } := by
  obtain ⟨rfl, hidle, hfreq, haFreq, hie, -⟩ := h
  obtain ⟨k, sc, hcalc⟩ := hvalid
  rw [runCommand_settone_short hidle hpin hcalc hfreq, State.retargeted, ← haFreq, ← hie]

/-- Settles O21: the second call writes the latch and the recorded pin, which hold the operand already. -/
theorem settoneTwiceDoesNotReprogram : Obligations.SettoneTwiceDoesNotReprogram := by
  unfold Obligations.SettoneTwiceDoesNotReprogram
  intro s p f hidle hpin hvalid
  obtain ⟨t, hfirst, htuned⟩ := runCommand_settone_tuned hidle hpin hvalid
  exact ⟨t, _, hfirst, htuned.runCommand_settone hpin hvalid, htuned.ie, htuned.ie, rfl, rfl, rfl, rfl, rfl, rfl⟩

/-- Settles O22: after the first call the second takes the short path, on which `IE` and the latched frequency are
written with the values they have. -/
theorem pinSwitchLeavesTheTimerAlone : Obligations.PinSwitchLeavesTheTimerAlone := by
  unfold Obligations.PinSwitchLeavesTheTimerAlone
  intro s a b f hidle hpinA hpinB hvalid
  obtain ⟨t, hfirst, htuned⟩ := runCommand_settone_tuned hidle hpinA hvalid
  exact ⟨t, hfirst, htuned.recordedPin, htuned.freq.symm, htuned.ie, htuned.runCommand_settone hpinB hvalid⟩

/-! ### INIT and STOPTONE (R102, R117 to R120) -/

/-- Settles O12: INIT's ACCEPT and its one micro-step. -/
theorem initSetsFrequencyZero : Obligations.InitSetsFrequencyZero := by
  unfold Obligations.InitSetsFrequencyZero
  refine ⟨fun s hidle => exec_init_idle hidle, fun s hph => ?_, fun s hidle => ?_⟩
  · rw [← seqStep_of_inProgress (by rw [inProgress, hph]), (MicroStep.init1 hph).seqStep_eq]
    rfl
  · have hsteps : Steps MicroStep 1 (s.goto .init1) ({ s with freq := 0 }.goto .idle) := .step (.init1 rfl) .done
    rw [runCommand_of_exec (exec_init_idle hidle), hsteps.seqRun_eq rfl (by decide),
      State.goto_of_ph_eq (by exact hidle)]

/-- R120: the state after STOPTONE of the operand `q` when the pin `p` is recorded. -/
def State.silenced (s : State) (q p : PinIndex) : State :=
  { s with aPin := q, ie := false, lvl := s.lvl.set p.toNat false, history := s.history ++ [.pinWrite p false] }

section Stoptone

variable {s : State} (hidle : s.ph = .idle) (q : PinIndex)
include hidle

theorem runCommand_stoptone_of_some {p : PinIndex} (hpin : s.recordedPin = some p) :
    runCommand (.stoptone q) s = .next (s.silenced q p) := by
  have hsteps : Steps MicroStep 2 ((s.latchPin q).goto .stop1) ((s.silenced q p).goto .idle) :=
    .step (.stop1 rfl) <| .step (.stop2 rfl hpin) .done
  rw [runCommand_of_exec (exec_stoptone_idle hidle q), hsteps.seqRun_eq rfl (by decide),
    State.goto_of_ph_eq (by exact hidle)]

theorem runCommand_stoptone_of_none (hpin : s.recordedPin = none) :
    runCommand (.stoptone q) s = .fault .pinUnwritten := by
  have hsteps : Steps MicroStep 1 ((s.latchPin q).goto .stop1) (((s.latchPin q).setIe false).goto .stop2) :=
    .step (.stop1 rfl) .done
  rw [runCommand_of_exec (exec_stoptone_idle hidle q)]
  exact hsteps.seqRun_fault (by simp) (seqStep_stop2_of_none rfl hpin) (by decide)

end Stoptone

/-- Settles O25: STOPTONE run whole, with a recorded pin and with none. -/
theorem stoptoneCompletes : Obligations.StoptoneCompletes := by
  unfold Obligations.StoptoneCompletes
  exact fun s q hidle => ⟨exec_stoptone_idle hidle q, fun p => runCommand_stoptone_of_some hidle q,
    runCommand_stoptone_of_none hidle q⟩

/-- Settles O26: whether a pin is recorded decides the outcome, and the operand is only latched. -/
theorem stoptoneOperandIsIgnored : Obligations.StoptoneOperandIsIgnored := by
  unfold Obligations.StoptoneOperandIsIgnored
  intro s q r hidle
  cases hpin : s.recordedPin with
  | none =>
    rw [runCommand_stoptone_of_none hidle q hpin, runCommand_stoptone_of_none hidle r hpin]
    refine ⟨fun t ht => ?_, fun e he => he, fun t p ht => ?_⟩ <;> cases ht
  | some p =>
    rw [runCommand_stoptone_of_some hidle q hpin, runCommand_stoptone_of_some hidle r hpin]
    refine ⟨fun t ht => ?_, fun e he => ?_, fun t p' ht hp' hne => ?_⟩
    · cases ht
      rfl
    · cases he
    · cases ht
      cases hp'
      exact ⟨rfl, rfl, List.getElem?_set_ne (by rwa [Ne, BitVec.toNat_inj]), rfl⟩

end Sys2Proof.Machine
end

section
/-! PROOFS. SETTONE with TICKs between its micro-steps (R113, O20): a turn of the timer commutes with the micro-steps,
up to the registers that both the TICKs and the micro-steps decide. -/

namespace Sys2Proof.Machine

/-! ### A turn of the timer, and of the sequencer -/

/-- R150, R159: what a turn of the timer makes of the state. -/
def timerTurn (s : State) : State := if s.run then tick s else s

theorem AgentStep.eq_timerTurn {s t : State} (h : AgentStep .tmr s t) : t = timerTurn s := by
  cases h with
  | disabled hoff => exact (if_neg (Bool.eq_false_iff.mp hoff)).symm
  | tmr hrun => exact (if_pos hrun).symm

theorem AgentStep.eq_of_seq_idle {s t : State} (h : AgentStep .seq s t) (hidle : s.ph = .idle) : t = s := by
  cases h with
  | disabled => rfl
  | seq hbusy => exact absurd hidle hbusy

theorem MicroStep.unique {s t t' : State} (h : MicroStep s t) (h' : MicroStep s t') : t' = t :=
  (Host.Outcome.next.inj (h.seqStep_eq.symm.trans h'.seqStep_eq)).symm

/-- Many turns of the timer: TICKs, if it runs at all. -/
theorem timerTurn_iterate (n : Nat) (s : State) : timerTurn^[n] s = if s.run then ticks n s else s := by
  cases hrun : s.run with
  | false => exact Function.iterate_fixed (by simp [timerTurn, hrun]) n
  | true =>
    induction n generalizing s with
    | zero => rfl
    | succ n ih =>
      have htick : (tick s).run = true := by rw [State.run, tick_tcr]; exact hrun
      rw [Function.iterate_succ_apply, timerTurn, if_pos hrun, ih _ htick]
      rfl

/-! ### Up to the counters -/

/-- Two states that agree but for what a TICK writes. -/
def SameButCounters (s t : State) : Prop := t = { s with mp := t.mp, cnt := t.cnt, psc := t.psc }

theorem timerTurn_sameButCounters (s : State) : SameButCounters s (timerTurn s) := by
  unfold timerTurn
  split
  · exact tick_frame s
  · rfl

/-- A micro-step reads neither `MP` nor a counter, and writes none. -/
theorem MicroStep.withCounters {s t : State} (h : MicroStep s t) (mp : Bool) (cnt : TimerReg) (psc : BitVec 16) :
    MicroStep { s with mp := mp, cnt := cnt, psc := psc } { t with mp := mp, cnt := cnt, psc := psc } := by
  cases h with
  | init1 hph => exact .init1 hph
  | set1Long hph hne => exact .set1Long hph hne
  | set1Short hph heq => exact .set1Short hph heq
  | set2aMode hph hpin => exact .set2aMode hph hpin
  | set2aLow hph hpin => exact .set2aLow hph hpin
  | set2b hph => exact .set2b hph
  | set2c hph hcalc => exact .set2c hph hcalc
  | set2d hph => exact .set2d hph
  | set2eCmp hph => exact .set2eCmp hph
  | set2eTcr hph => exact .set2eTcr hph
  | set3 hph => exact .set3 hph
  | stop1 hph => exact .stop1 hph
  | stop2 hph hpin => exact .stop2 hph hpin

/-! ### Two states with the same timer (R150) -/

theorem tick_of_wait {s : State} (hwait : ¬ s.psc.toNat + 1 ≥ s.divisor) : tick s = { s with psc := s.psc + 1 } :=
  if_neg hwait

theorem tick_of_match {s : State} (hdue : s.psc.toNat + 1 ≥ s.divisor) (hmatch : s.cnt = s.cmp) :
    tick s = { s with psc := 0, cnt := 0, mp := true } :=
  (if_pos hdue).trans (if_pos hmatch)

theorem tick_of_count {s : State} (hdue : s.psc.toNat + 1 ≥ s.divisor) (hcount : s.cnt ≠ s.cmp) :
    tick s = { s with psc := 0, cnt := s.cnt + 1 } :=
  (if_pos hdue).trans (if_neg hcount)

section SameTimer

variable {s t : State} (hcmp : t.cmp = s.cmp) (htcr : t.tcr = s.tcr) (hmp : t.mp = s.mp) (hcnt : t.cnt = s.cnt)
  (hpsc : t.psc = s.psc)
include hcmp htcr hmp hcnt hpsc

/-- Two states with the same timer take the same TICK. -/
theorem tick_congr : tick t = { t with mp := (tick s).mp, cnt := (tick s).cnt, psc := (tick s).psc } := by
  have hdivisor : t.divisor = s.divisor := by rw [State.divisor, State.ps, htcr]; rfl
  by_cases hdue : s.psc.toNat + 1 ≥ s.divisor
  · have hdue' : t.psc.toNat + 1 ≥ t.divisor := by rwa [hpsc, hdivisor]
    by_cases hmatch : s.cnt = s.cmp
    · rw [tick_of_match hdue hmatch, tick_of_match hdue' (by rwa [hcnt, hcmp])]
    · rw [tick_of_count hdue hmatch, tick_of_count hdue' (by rwa [hcnt, hcmp]), ← hmp, ← hcnt]
  · rw [tick_of_wait hdue, tick_of_wait (by rwa [hpsc, hdivisor]), ← hmp, ← hcnt, ← hpsc]

/-- Two states with the same timer take the same turn of it. -/
theorem timerTurn_congr :
    timerTurn t = { t with mp := (timerTurn s).mp, cnt := (timerTurn s).cnt, psc := (timerTurn s).psc } := by
  have hrun : t.run = s.run := by rw [State.run, htcr]; rfl
  unfold timerTurn
  rw [hrun]
  cases s.run with
  | true => exact tick_congr hcmp htcr hmp hcnt hpsc
  | false => simp only [Bool.false_eq_true, if_false, ← hmp, ← hcnt, ← hpsc]

end SameTimer

/-! ### TICKs among the micro-steps -/

/-- A turn of the timer before the micro-steps `R` is one after them, up to `T`. -/
structure TimerCommutes (R T : State → State → Prop) : Prop where
  /-- The steps are micro-steps. -/
  micro : ∀ {s t}, R s t → MicroStep s t
  /-- `T` allows for a turn of the timer. -/
  turn : ∀ s, T s (timerTurn s)
  /-- `T` keeps the phase. -/
  ph : ∀ {s s'}, T s s' → s'.ph = s.ph
  /-- What `T` allows for before a micro-step it allows for after it. -/
  commute : ∀ {s t s'}, R s t → T s s' → ∃ t', R s' t' ∧ T t t'

section TimerCommutes

variable {R T : State → State → Prop} (h : TimerCommutes R T)
include h

theorem TimerCommutes.commute_steps {n : Nat} {s e s' : State} (hpath : Steps R n s e) (hturn : T s s') :
    ∃ e', Steps R n s' e' ∧ T e e' := by
  induction hpath generalizing s' with
  | done => exact ⟨s', .done, hturn⟩
  | step hstep _ ih =>
    obtain ⟨t', hstep', hturn'⟩ := h.commute hstep hturn
    obtain ⟨e', hpath', hend⟩ := ih hturn'
    exact ⟨e', .step hstep' hpath', hend⟩

/-- A command whose micro-steps alone end in `e`, run to its end with turns of the timer anywhere between them, ends
where as many turns of the timer lead from `e`. -/
theorem TimerCommutes.runTurns_end {turns : List Agent} {n : Nat} {s e u : State} (hpath : Steps R n s e)
    (hidle : e.ph = .idle) (hagents : ∀ a ∈ turns, a = .seq ∨ a = .tmr) (hcount : n ≤ turns.count .seq)
    (hrun : runTurns turns s = .next u) : Steps T (turns.count .tmr) e u := by
  induction turns generalizing n s e with
  | nil =>
    obtain rfl : n = 0 := Nat.le_zero.mp hcount
    cases hpath
    cases hrun
    exact .done
  | cons a rest ih =>
    obtain ⟨v, hstep, hrest⟩ := runTurns_cons_next hrun
    obtain ⟨ha, hrestAgents⟩ := List.forall_mem_cons.mp hagents
    rcases ha with rfl | rfl
    · rw [List.count_cons_self] at hcount
      rw [List.count_cons_of_ne (by decide)]
      cases hpath with
      | done =>
        obtain rfl := hstep.eq_of_seq_idle hidle
        exact ih .done hidle hrestAgents (Nat.zero_le _) hrest
      | step hR hpath =>
        obtain rfl := (h.micro hR).unique (hstep.microStep (h.micro hR).ph_ne_idle)
        exact ih hpath hidle hrestAgents (by omega) hrest
    · rw [List.count_cons_of_ne (by decide)] at hcount
      rw [List.count_cons_self]
      obtain rfl := hstep.eq_timerTurn
      obtain ⟨e', hpath', hend⟩ := h.commute_steps hpath (h.turn s)
      exact .step hend (ih hpath' ((h.ph hend).trans hidle) hrestAgents hcount hrest)

end TimerCommutes

/-- Where the timer is reprogrammed, a TICK before the micro-steps is one after them up to the counters. -/
theorem timerCommutes_microStep : TimerCommutes MicroStep SameButCounters where
  micro := id
  turn := timerTurn_sameButCounters
  ph hsame := by rw [hsame]
  commute {s t s'} hmicro hsame := by
    rw [hsame]
    exact ⟨_, hmicro.withCounters s'.mp s'.cnt s'.psc, rfl⟩

/-- Where it is not, a TICK before the micro-steps is a TICK after them. -/
theorem timerCommutes_quietStep : TimerCommutes QuietStep (fun s t => t = timerTurn s) where
  micro := And.left
  turn _ := rfl
  ph {s _} hturn := by rw [hturn, timerTurn_sameButCounters s]
  commute {s t s'} hquiet hturn := by
    obtain ⟨hmicro, hcmp, htcr⟩ := hquiet
    have hcounters : t.mp = s.mp ∧ t.cnt = s.cnt ∧ t.psc = s.psc := by
      rw [hmicro.frame]
      exact ⟨rfl, rfl, rfl⟩
    obtain ⟨hmp, hcnt, hpsc⟩ := hcounters
    refine ⟨_, ?_, rfl⟩
    rw [hturn, timerTurn_congr hcmp htcr hmp hcnt hpsc, timerTurn_sameButCounters s]
    exact ⟨hmicro.withCounters _ _ _, hcmp, htcr⟩

/-! ### The turns of the timer after the command -/

theorem Steps.eq_of_zero {R : State → State → Prop} {s u : State} (h : Steps R 0 s u) : u = s := by
  cases h
  rfl

theorem Steps.sameButCounters {n : Nat} {s u : State} (h : Steps SameButCounters n s u) : SameButCounters s u := by
  induction h with
  | done => rfl
  | step hstep _ ih =>
    rw [SameButCounters, hstep] at ih
    exact ih

theorem Steps.eq_iterate {g : State → State} {n : Nat} {s u : State} (h : Steps (fun s t => t = g s) n s u) :
    u = g^[n] s := by
  induction h with
  | done => rfl
  | step hstep _ ih => rw [ih, hstep, Function.iterate_succ_apply]

theorem timerTurn_iterate_retargeted (n : Nat) (s : State) (p : PinIndex) (f : Hertz) :
    timerTurn^[n] (s.retargeted p f) = (timerTurn^[n] s).retargeted p f := by
  have hcommute : Function.Semiconj (State.retargeted · p f) timerTurn timerTurn := fun s => by
    rw [timerTurn_congr (s := s) (t := s.retargeted p f) rfl rfl rfl rfl rfl, timerTurn_sameButCounters s]
    rfl
  exact (hcommute.iterate_right n s).symm

/-- Settles O20: on the long path the turns of the timer change the counters of the net effect, on the short path they
are as many turns of the timer on the state before; with no turn of the timer the net effect is exact. -/
theorem settoneNetEffectUnderTicks : Obligations.SettoneNetEffectUnderTicks := by
  unfold Obligations.SettoneNetEffectUnderTicks
  intro s t u p f k sc turns hidle hpin hcalc hexec hagents hcount hrun
  obtain rfl := Host.Outcome.next.inj ((exec_settone_accepts hidle hpin hcalc).symm.trans hexec)
  have hlong (hne : f ≠ s.freq) : Steps SameButCounters (turns.count .tmr) (s.retuned p f k sc) u :=
    timerCommutes_microStep.runTurns_end (settone_long_steps hidle p hcalc hne) hidle hagents hcount hrun
  have hshort (heq : f = s.freq) :
      Steps (fun s t => t = timerTurn s) (turns.count .tmr) (s.retargeted p f) u :=
    timerCommutes_quietStep.runTurns_end (settone_short_steps hidle p heq) hidle hagents (by omega) hrun
  refine ⟨fun hne => (hlong hne).sameButCounters, fun heq => ?_, fun hnone => ?_, fun v w hw => ?_⟩
  · rw [(hshort heq).eq_iterate, timerTurn_iterate_retargeted, timerTurn_iterate]
    rfl
  · have hzero : turns.count .tmr = 0 := List.count_eq_zero.mpr hnone
    rw [hzero] at hlong hshort
    by_cases hfreq : f = s.freq
    · rw [(hshort hfreq).eq_of_zero]
      exact ⟨rfl, rfl, rfl⟩
    · rw [(hlong hfreq).eq_of_zero]
      exact ⟨rfl, rfl, rfl⟩
  · obtain ⟨⟨-, hmp, hcnt, hpsc, -⟩, -⟩ := settoneFrame v w p f hw
    exact ⟨hmp, hcnt, hpsc⟩

end Sys2Proof.Machine
end

section
/-! PROOFS. The end of a command, and the silence after STOPTONE (spec/40_commands.md R120, R122): how many micro-steps
each phase is from `IDLE` (O58), and what every step keeps while no SETTONE word is presented (O27). -/

namespace Sys2Proof.Machine

/-! ### How far each phase is from its end (R122) -/

/-- `n` micro-steps bring the command in progress to its end. -/
def EndsIn (n : Nat) (s : State) : Prop := ∃ t, Steps MicroStep n s t ∧ t.ph = .idle

theorem EndsIn.cons {n : Nat} {s t : State} (h : MicroStep s t) (hend : EndsIn n t) : EndsIn (n + 1) s := by
  obtain ⟨u, hsteps, hidle⟩ := hend
  exact ⟨u, .step h hsteps, hidle⟩

theorem EndsIn.seqRun {n m : Nat} {s : State} (h : EndsIn n s) (hle : n ≤ m) :
    ∃ t, seqRun m s = .next t ∧ t.ph = .idle := by
  obtain ⟨t, hsteps, hidle⟩ := h
  exact ⟨t, hsteps.seqRun_eq hidle hle, hidle⟩

section EndsIn

variable {s : State}

theorem endsIn_of_idle (hidle : s.ph = .idle) : EndsIn 0 s := ⟨s, .done, hidle⟩

theorem endsIn_of_init1 (hph : s.ph = .init1) : EndsIn 1 s := .cons (.init1 hph) (endsIn_of_idle rfl)

theorem endsIn_of_set3 (hph : s.ph = .set3) : EndsIn 1 s := .cons (.set3 hph) (endsIn_of_idle rfl)

theorem endsIn_of_set2eTcr (hph : s.ph = .set2eTcr) : EndsIn 2 s := .cons (.set2eTcr hph) (endsIn_of_set3 rfl)

theorem endsIn_of_set2eCmp (hph : s.ph = .set2eCmp) : EndsIn 3 s := .cons (.set2eCmp hph) (endsIn_of_set2eTcr rfl)

theorem endsIn_of_set2d (hph : s.ph = .set2d) : EndsIn 4 s := .cons (.set2d hph) (endsIn_of_set2eCmp rfl)

theorem endsIn_of_set2c (hph : s.ph = .set2c) (hvalid : ValidFreq s.cfg s.freq) : EndsIn 5 s := by
  obtain ⟨k, sc, hcalc⟩ := hvalid
  exact .cons (.set2c hph hcalc) (endsIn_of_set2d rfl)

theorem endsIn_of_set2b (hph : s.ph = .set2b) (hvalid : ValidFreq s.cfg s.aFreq) : EndsIn 6 s :=
  .cons (.set2b hph) (endsIn_of_set2c rfl hvalid)

theorem endsIn_of_set2aLow (hph : s.ph = .set2aLow) (hvalid : ValidFreq s.cfg s.aFreq) {p : PinIndex}
    (hpin : s.recordedPin = some p) : EndsIn 7 s :=
  .cons (.set2aLow hph hpin) (endsIn_of_set2b rfl hvalid)

theorem endsIn_of_set2aMode (hph : s.ph = .set2aMode) (hvalid : ValidFreq s.cfg s.aFreq) {p : PinIndex}
    (hpin : s.recordedPin = some p) : EndsIn 8 s :=
  .cons (.set2aMode hph hpin) (endsIn_of_set2aLow rfl hvalid hpin)

theorem endsIn_of_set1 (hph : s.ph = .set1) (hvalid : ValidFreq s.cfg s.aFreq) : EndsIn 2 s ∨ EndsIn 9 s := by
  by_cases hfreq : s.aFreq = s.freq
  · exact .inl (.cons (.set1Short hph hfreq) (endsIn_of_set3 rfl))
  · exact .inr (.cons (.set1Long hph hfreq) (endsIn_of_set2aMode rfl hvalid rfl))

theorem endsIn_of_stop2 (hph : s.ph = .stop2) {p : PinIndex} (hpin : s.recordedPin = some p) : EndsIn 1 s :=
  .cons (.stop2 hph hpin) (endsIn_of_idle rfl)

theorem endsIn_of_stop1 (hph : s.ph = .stop1) {p : PinIndex} (hpin : s.recordedPin = some p) : EndsIn 2 s :=
  .cons (.stop1 hph) (endsIn_of_stop2 rfl hpin)

/-- Every phase of INIT and of SETTONE is at most nine micro-steps from `IDLE`: the invariant says that the operands of
a SETTONE in progress are valid, and that its pin is recorded. -/
theorem State.Inv.endsIn (hinv : s.Inv) (hstop1 : s.ph ≠ .stop1) (hstop2 : s.ph ≠ .stop2) :
    ∃ n ≤ 9, EndsIn n s := by
  have hvalid {ph : Phase} (hph : s.ph = ph) (hown : ph.isSettone = true) : ValidFreq s.cfg s.aFreq :=
    hinv.latchFreq (hph ▸ hown)
  have hpin {ph : Phase} (hph : s.ph = ph) (hown : ph.pinRecorded = true) : s.recordedPin = some s.aPin :=
    hinv.recorded (hph ▸ hown)
  cases hph : s.ph with
  | idle => exact ⟨0, by decide, endsIn_of_idle hph⟩
  | init1 => exact ⟨1, by decide, endsIn_of_init1 hph⟩
  | set1 =>
    rcases endsIn_of_set1 hph (hvalid hph rfl) with hend | hend
    · exact ⟨2, by decide, hend⟩
    · exact ⟨9, le_rfl, hend⟩
  | set2aMode => exact ⟨8, by decide, endsIn_of_set2aMode hph (hvalid hph rfl) (hpin hph rfl)⟩
  | set2aLow => exact ⟨7, by decide, endsIn_of_set2aLow hph (hvalid hph rfl) (hpin hph rfl)⟩
  | set2b => exact ⟨6, by decide, endsIn_of_set2b hph (hvalid hph rfl)⟩
  | set2c => exact ⟨5, by decide, endsIn_of_set2c hph (hinv.validFreq_of_set2c hph)⟩
  | set2d => exact ⟨4, by decide, endsIn_of_set2d hph⟩
  | set2eCmp => exact ⟨3, by decide, endsIn_of_set2eCmp hph⟩
  | set2eTcr => exact ⟨2, by decide, endsIn_of_set2eTcr hph⟩
  | set3 => exact ⟨1, by decide, endsIn_of_set3 hph⟩
  | stop1 => exact absurd hph hstop1
  | stop2 => exact absurd hph hstop2

/-- A STOPTONE in progress ends when a pin is recorded. -/
theorem endsIn_of_stop {p : PinIndex} (hph : s.ph = .stop1 ∨ s.ph = .stop2) (hpin : s.recordedPin = some p) :
    ∃ n ≤ 9, EndsIn n s := by
  rcases hph with hph | hph
  · exact ⟨2, by decide, endsIn_of_stop1 hph hpin⟩
  · exact ⟨1, by decide, endsIn_of_stop2 hph hpin⟩

/-- A STOPTONE in progress faults when no pin is recorded (R118). -/
theorem seqRun_fault_of_stop (hph : s.ph = .stop1 ∨ s.ph = .stop2) (hpin : s.recordedPin = none) :
    seqRun 9 s = .fault .pinUnwritten := by
  have hstop2 {n : Nat} {t : State} (hsteps : Steps MicroStep n s t) (hph : t.ph = .stop2)
      (hpin : t.recordedPin = none) (hlt : n < 9) : seqRun 9 s = .fault .pinUnwritten :=
    hsteps.seqRun_fault (by simp [hph]) (seqStep_stop2_of_none hph hpin) hlt
  rcases hph with hph | hph
  · exact hstop2 (.step (.stop1 hph) .done) rfl hpin (by decide)
  · exact hstop2 .done hph hpin (by decide)

end EndsIn

/-- Settles O58: the distance of each phase from `IDLE`, and the fault of STOPTONE. -/
theorem commandEndsWithinNineMicroSteps : Obligations.CommandEndsWithinNineMicroSteps := by
  unfold Obligations.CommandEndsWithinNineMicroSteps
  intro s hinv
  by_cases hstop : s.ph = .stop1 ∨ s.ph = .stop2
  · cases hpin : s.recordedPin with
    | none => exact .inr ⟨seqRun_fault_of_stop hstop hpin, rfl, hstop⟩
    | some p =>
      obtain ⟨n, hle, hend⟩ := endsIn_of_stop hstop hpin
      exact .inl (hend.seqRun hle)
  · obtain ⟨hstop1, hstop2⟩ := not_or.mp hstop
    obtain ⟨n, hle, hend⟩ := hinv.endsIn hstop1 hstop2
    exact .inl (hend.seqRun hle)

/-! ### The silence after STOPTONE (R120) -/

/-- What every step keeps holds after any run of the machine. -/
theorem core_run_keeps {P : State → Prop} (hstep : ∀ {s t}, P s → step s = .next t → P t) {n : Nat}
    {s t : Sys2Proof.core.State} (hs : P s) (h : Host.Core.run Sys2Proof.core n s = .next t) : P t := by
  induction n generalizing s with
  | zero => cases h; exact hs
  | succ n ih =>
    rw [Host.Core.run] at h
    split at h
    · exact ih (hstep hs ‹_›) h
    all_goals cases h

/-- R120: since the state `t` the block has been silent, and no SETTONE can end the silence. -/
structure Silent (p : PinIndex) (t u : State) : Prop where
  /-- No SETTONE is to be presented. -/
  words : ∀ w ∈ u.words, isSettoneWord w = false
  /-- No SETTONE is in progress. -/
  ph : u.ph.isSettone = false
  /-- The recorded pin is `p`. -/
  pin : u.recordedPin = some p
  /-- The interrupt is masked. -/
  masked : u.ie = false
  /-- The levels are those of `t`. -/
  levels : u.lvl = t.lvl
  /-- The directions are those of `t`. -/
  directions : u.dir = t.dir

section Silent

variable {p : PinIndex} {t u v : State} (h : Silent p t u)
include h

theorem Silent.spendTurn : Silent p t (spendTurn u) where
  words := by simpa using h.words
  ph := by simpa using h.ph
  pin := by rw [spendTurn_recordedPin, h.pin]
  masked := by rw [spendTurn_ie, h.masked]
  levels := by rw [spendTurn_lvl, h.levels]
  directions := by rw [spendTurn_dir, h.directions]

/-- The host's next command is not a SETTONE, so its ACCEPT starts none. -/
theorem Silent.accept {w : CmdWord} {ws : List CmdWord} {i : Instr} (hidle : u.ph = .idle) (hwords : u.words = w :: ws)
    (hdecode : decode w = .ok i) (hexec : exec i { u with words := ws } = .next v) : Silent p t v := by
  have hquiet := h.words
  rw [hwords] at hquiet
  obtain ⟨hw, hws⟩ := List.forall_mem_cons.mp hquiet
  rcases exec_idle (s := { u with words := ws }) hidle hexec with ⟨-, rfl⟩ | ⟨q, f, rfl, -, -⟩ | ⟨q, -, rfl⟩
  · exact { h with words := hws, ph := rfl }
  · rw [(decode_settone_iff w).mp ⟨q, f, hdecode⟩] at hw
    cases hw
  · exact { h with words := hws, ph := rfl }

/-- A micro-step of INIT or STOPTONE drives no pin but the recorded one, and that one low, as it is. -/
theorem Silent.microStep (hlow : t.lvl.set p.toNat false = t.lvl) (hmicro : MicroStep u v) : Silent p t v := by
  have hph := h.ph
  cases hmicro with
  | init1 => exact { h with ph := rfl }
  | stop1 => exact { h with ph := rfl, masked := rfl }
  | stop2 _ hpin =>
    obtain rfl := Option.some.inj (hpin.symm.trans h.pin)
    exact { h with ph := rfl, levels := by simp [h.levels, hlow] }
  | _ hown => rw [hown] at hph; cases hph

theorem Silent.agentStep {a : Agent} (hlow : t.lvl.set p.toNat false = t.lvl) (hstep : AgentStep a u v) :
    Silent p t v := by
  cases hstep with
  | disabled => exact h
  | host hidle hwords hdecode hexec => exact h.accept hidle hwords hdecode hexec
  | seq _ hmicro => exact h.microStep hlow hmicro
  | tmr => rw [tick_frame]; exact { h with }
  | irq hie => rw [h.masked] at hie; cases hie

theorem Silent.step (hlow : t.lvl.set p.toNat false = t.lvl) (hstep : step u = .next v) : Silent p t v := by
  obtain ⟨a, u', -, rfl, hagent⟩ := step_next hstep
  exact h.spendTurn.agentStep hlow hagent

end Silent

/-- Settles O27: STOPTONE leaves the block silent, and every step keeps it so. -/
theorem stoppedToneStaysLow : Obligations.StoppedToneStaysLow := by
  unfold Obligations.StoppedToneStaysLow
  intro s t u p q n hidle hpin hwords hlt hstop hrun
  obtain rfl := Host.Outcome.next.inj ((runCommand_stoptone_of_some hidle q hpin).symm.trans hstop)
  have hstart : Silent p (s.silenced q p) (s.silenced q p) :=
    ⟨hwords, by rw [State.silenced, hidle]; rfl, hpin, rfl, rfl, rfl⟩
  have hlow : (s.silenced q p).lvl.set p.toNat false = (s.silenced q p).lvl := List.set_set ..
  obtain ⟨-, -, -, hmasked, hlevels, hdirections⟩ := core_run_keeps (fun h => h.step hlow) hstart hrun
  refine ⟨rfl, hmasked, ?_, hlevels, hdirections⟩
  rw [hlevels]
  exact List.getElem?_set_self hlt

end Sys2Proof.Machine
end

section
/-! PROOFS. The calculator (spec/41_calculator.md): the prescaler search in closed form, what `Calc` answers in each of
its cases, and the statements O30 to O37. -/

namespace Sys2Proof.Machine

/-! ### The prescaler search (R132) -/

/-- The shifted count fits in 8 bits when the count has no more than 8 bits above the shift. -/
theorem div_two_pow_le_255_iff {count k : Nat} : count / 2 ^ k ≤ 255 ↔ count < 2 ^ (k + 8) := by
  rw [← Nat.lt_succ_iff, Nat.div_lt_iff_lt_mul (by positivity), pow_add, Nat.mul_comm]
  rfl

/-- The search from step `k` ends on `k` or on the number of bits less 8, whichever is greater, when it has rounds
enough to get there. -/
theorem prescalerSearch_eq_max {count rounds k : Nat} (hrounds : count < 2 ^ (k + rounds + 8)) :
    prescalerSearch rounds count k = max k (count.size - 8) := by
  induction rounds generalizing k with
  | zero =>
    have hsize := Nat.size_le.mpr hrounds
    rw [prescalerSearch]
    omega
  | succ rounds ih =>
    have hfits : count >>> k ≤ 255 ↔ count.size ≤ k + 8 := by
      rw [Nat.shiftRight_eq_div_pow, div_two_pow_le_255_iff, Nat.size_le]
    rw [prescalerSearch]
    split
    · rw [ih (by rwa [show k + 1 + rounds + 8 = k + (rounds + 1) + 8 by omega])]
      omega
    · omega

section Search

variable {count : Nat} (hcount : count < 2 ^ 31)
include hcount

theorem prescalerSearch_eq_size_sub : prescalerSearch searchRounds count 0 = count.size - 8 := by
  rw [prescalerSearch_eq_max (hcount.trans (by decide)), Nat.zero_max]

/-- The search stops at or before a step exactly when the count scaled by that step fits. -/
theorem prescalerSearch_le_iff {j : Nat} : prescalerSearch searchRounds count 0 ≤ j ↔ count / 2 ^ j ≤ 255 := by
  rw [prescalerSearch_eq_size_sub hcount, Nat.sub_le_iff_le_add, Nat.size_le, div_two_pow_le_255_iff]

end Search

/-- Settles O31: the search stops at or before `j` exactly when `count / 2^j` fits, which makes its result the least such
step. -/
theorem searchFindsTheLeastStep : Obligations.SearchFindsTheLeastStep := by
  unfold Obligations.SearchFindsTheLeastStep
  intro count hcount
  have hle {j : Nat} := prescalerSearch_le_iff hcount (j := j)
  refine ⟨hle.mp le_rfl, fun j hj => ?_, fun hfits => ?_, fun _ => prescalerSearch_eq_size_sub hcount⟩
  · exact Nat.not_le.mp fun hfits => Nat.not_lt.mpr (hle.mpr hfits) hj
  · exact Nat.le_zero.mp (hle.mpr (by rwa [pow_zero, Nat.div_one]))

/-! ### The half-period count (R131) -/

theorem halfPeriodCount_eq_div (c : Params) (f : Hertz) : halfPeriodCount c f = c.timerClock / (2 * f.toNat) := by
  rw [halfPeriodCount, Nat.div_div_eq_div_mul, Nat.mul_comm]

/-- Settles O30: dividing by `f` and then by 2 is dividing by `2 f`. -/
theorem countIsHalfThePeriod : Obligations.CountIsHalfThePeriod := by
  unfold Obligations.CountIsHalfThePeriod
  exact fun c f _ => ⟨rfl, halfPeriodCount_eq_div c f⟩

theorem mul_halfPeriodCount_le (c : Params) (f : Hertz) : 2 * f.toNat * halfPeriodCount c f ≤ c.timerClock := by
  rw [halfPeriodCount_eq_div]
  exact Nat.mul_div_le ..

/-- A frequency operand other than 0 is a positive number. -/
theorem toNat_pos_iff {f : Hertz} : 0 < f.toNat ↔ f ≠ 0#16 := by
  rw [Nat.pos_iff_ne_zero, Ne, Ne, BitVec.toNat_eq, BitVec.toNat_ofNat, Nat.zero_mod]

section Count

variable {c : Params} {f : Hertz} (hne : f ≠ 0#16)
include hne

theorem two_mul_toNat_pos : 0 < 2 * f.toNat :=
  Nat.mul_pos Nat.two_pos (toNat_pos_iff.mpr hne)

/-- R137 (b): the count is positive up to half the timer clock. -/
theorem halfPeriodCount_pos_iff : 0 < halfPeriodCount c f ↔ f.toNat ≤ c.timerClock / 2 := by
  rw [halfPeriodCount_eq_div, Nat.div_pos_iff, and_iff_right (two_mul_toNat_pos hne),
    Nat.le_div_iff_mul_le Nat.two_pos, Nat.mul_comm]

theorem lt_mul_halfPeriodCount_succ : c.timerClock < 2 * f.toNat * (halfPeriodCount c f + 1) := by
  rw [halfPeriodCount_eq_div]
  exact Nat.lt_mul_div_succ _ (two_mul_toNat_pos hne)

end Count

/-! ### What `Calc` answers (R130, R135 to R137) -/

theorem nps_pos (c : Params) : 1 ≤ c.nps := Nat.le_add_left ..

theorem nps_le (c : Params) : c.nps ≤ 16 := c.npsPred.isLt

/-- The search on a count of the block passes the last prescaler step exactly when the count is `2^(NPS + 7)` or more. -/
theorem nps_le_prescalerSearch_iff {c : Params} {f : Hertz} :
    c.nps ≤ prescalerSearch searchRounds (halfPeriodCount c f) 0 ↔ 2 ^ (c.nps + 7) ≤ halfPeriodCount c f := by
  have hpos := nps_pos c
  have hlast := prescalerSearch_le_iff (halfPeriodCount_lt c f) (j := c.nps - 1)
  rw [div_two_pow_le_255_iff, show c.nps - 1 + 8 = c.nps + 7 by omega] at hlast
  omega

/-- The four cases of `Calc`, each with its condition on the frequency and the count. -/
theorem toneCalc_cases (c : Params) (f : Hertz) :
    (f = 0#16 ∧ toneCalc c f = .error .freqZero) ∨
    (f ≠ 0#16 ∧ halfPeriodCount c f = 0 ∧ toneCalc c f = .error (.freqHigh f)) ∨
    (f ≠ 0#16 ∧ 2 ^ (c.nps + 7) ≤ halfPeriodCount c f ∧ toneCalc c f = .error (.freqLow f)) ∨
    (f ≠ 0#16 ∧ 0 < halfPeriodCount c f ∧ halfPeriodCount c f < 2 ^ (c.nps + 7) ∧ ValidFreq c f) := by
  by_cases hzero : f = 0#16
  · exact .inl ⟨hzero, if_pos hzero⟩
  by_cases hcount : halfPeriodCount c f = 0
  · exact .inr (.inl ⟨hzero, hcount, by simp [toneCalc, hzero, hcount]⟩)
  by_cases hlow : 2 ^ (c.nps + 7) ≤ halfPeriodCount c f
  · exact .inr (.inr (.inl ⟨hzero, hlow, by simp [toneCalc, hzero, hcount, nps_le_prescalerSearch_iff, hlow]⟩))
  · refine .inr (.inr (.inr ⟨hzero, Nat.pos_of_ne_zero hcount, Nat.not_le.mp hlow, ?_⟩))
    simp only [ValidFreq, toneCalc, if_neg hzero, if_neg hcount, ge_iff_le, nps_le_prescalerSearch_iff, if_neg hlow]
    exact ⟨_, _, rfl⟩

theorem validFreq_iff {c : Params} {f : Hertz} :
    ValidFreq c f ↔ f ≠ 0#16 ∧ 0 < halfPeriodCount c f ∧ halfPeriodCount c f < 2 ^ (c.nps + 7) := by
  rcases toneCalc_cases c f with ⟨rfl, hcalc⟩ | ⟨-, hcount, hcalc⟩ | ⟨-, hlow, hcalc⟩ | ⟨hne, hpos, hlt, hvalid⟩
  · simp [ValidFreq, hcalc]
  · simp [ValidFreq, hcalc, hcount]
  · simp [ValidFreq, hcalc, hlow]
  · exact ⟨fun _ => ⟨hne, hpos, hlt⟩, fun _ => hvalid⟩

/-- Settles O33: the condition on the count under which none of the three faults is raised. -/
theorem validFrequencies : Obligations.ValidFrequencies := by
  unfold Obligations.ValidFrequencies
  intro c f
  rw [validFreq_iff, ← toNat_pos_iff, halfPeriodCount_eq_div, Nat.succ_le_iff, Nat.succ_le_iff]

/-- Settles O34: the conditions of the four cases of `Calc` exclude each other. -/
theorem invalidFrequenciesFault : Obligations.InvalidFrequenciesFault := by
  unfold Obligations.InvalidFrequenciesFault
  intro c f
  rw [← halfPeriodCount_eq_div]
  have hhigh (hne : f ≠ 0#16) : c.timerClock / 2 < f.toNat ↔ halfPeriodCount c f = 0 := by
    rw [← Nat.not_le, ← halfPeriodCount_pos_iff hne, Nat.pos_iff_ne_zero, not_not]
  rcases toneCalc_cases c f with ⟨rfl, hcalc⟩ | ⟨hne, hcount, hcalc⟩ | ⟨hne, hlow, hcalc⟩ |
    ⟨hne, hpos, hlt, k, sc, hcalc⟩
  · simp [hcalc]
  · simp [hcalc, hne, hhigh hne, hcount]
  · have hpos : halfPeriodCount c f ≠ 0 := (hlow.trans_lt' (by positivity)).ne'
    simp [hcalc, hne, hhigh hne, hpos, hlow]
  · simp [hcalc, hne, hhigh hne, hpos.ne', hlt]

/-! ### The pair that `Calc` returns (R133, R139, R140) -/

section Answer

variable {c : Params} {f : Hertz} {k : BitVec 4} {sc : BitVec 8} (h : toneCalc c f = .ok (k, sc))
include h

theorem step_eq_of_toneCalc : k.toNat = prescalerSearch searchRounds (halfPeriodCount c f) 0 := by
  obtain ⟨-, -, hlt, rfl, -⟩ := toneCalc_eq_ok h
  exact Nat.mod_eq_of_lt (hlt.trans_le (nps_le c))

theorem step_lt_of_toneCalc : k.toNat < c.nps := by
  obtain ⟨-, -, hlt, -, -⟩ := toneCalc_eq_ok h
  rwa [step_eq_of_toneCalc h]

/-- The step returned is at most `j` exactly when the count has no more than `j + 8` bits. -/
theorem step_le_iff_of_toneCalc {j : Nat} : k.toNat ≤ j ↔ halfPeriodCount c f < 2 ^ (j + 8) := by
  rw [step_eq_of_toneCalc h, prescalerSearch_le_iff (halfPeriodCount_lt c f), div_two_pow_le_255_iff]

theorem step_eq_zero_iff_of_toneCalc : k = 0#4 ↔ halfPeriodCount c f ≤ 255 := by
  rw [BitVec.toNat_eq, BitVec.toNat_ofNat, Nat.zero_mod, ← Nat.le_zero, step_le_iff_of_toneCalc h]
  exact Nat.lt_succ_iff

theorem scaled_eq_of_toneCalc : sc.toNat = halfPeriodCount c f / 2 ^ k.toNat := by
  have hfits : halfPeriodCount c f / 2 ^ k.toNat ≤ 255 :=
    div_two_pow_le_255_iff.mpr ((step_le_iff_of_toneCalc h).mp le_rfl)
  have hstep := step_eq_of_toneCalc h
  obtain ⟨-, -, -, -, rfl⟩ := toneCalc_eq_ok h
  rw [scaledCount, ← hstep, Nat.shiftRight_eq_div_pow, BitVec.toNat_ofNat]
  exact Nat.mod_eq_of_lt (Nat.lt_succ_of_le hfits)

theorem scaled_eq_count_of_toneCalc (hk : k = 0#4) : sc.toNat = halfPeriodCount c f := by
  rw [scaled_eq_of_toneCalc h, hk, BitVec.toNat_ofNat, Nat.zero_mod, pow_zero, Nat.div_one]

/-- R139: the step is the least, so after the first the scaled count keeps its top bit. -/
theorem scaled_ge_of_toneCalc (hk : k ≠ 0#4) : 128 ≤ sc.toNat := by
  have hpos : k.toNat ≠ 0 := fun hzero => hk (BitVec.eq_of_toNat_eq hzero)
  have hprev : 2 ^ (k.toNat - 1 + 8) ≤ halfPeriodCount c f :=
    Nat.not_lt.mp fun hlt => by
      have := (step_le_iff_of_toneCalc h).mpr hlt
      omega
  rw [scaled_eq_of_toneCalc h, Nat.le_div_iff_mul_le (by positivity)]
  rwa [show k.toNat - 1 + 8 = 7 + k.toNat by omega, pow_add] at hprev

theorem compareValue_toNat_of_toneCalc : (compareValue sc).toNat = sc.toNat - 1 :=
  BitVec.toNat_sub_of_le (BitVec.le_def.mpr (one_le_scaled_of_toneCalc h))

end Answer

/-- Settles O32: the scaled count is at least 1, at most 255, and at least 128 after the first step. -/
theorem calcRanges : Obligations.CalcRanges := by
  unfold Obligations.CalcRanges
  intro c f k sc h
  have hpos := one_le_scaled_of_toneCalc h
  have hle : sc.toNat ≤ 255 := Nat.le_of_lt_succ sc.isLt
  rw [compareValue_toNat_of_toneCalc h]
  exact ⟨scaled_eq_of_toneCalc h, step_lt_of_toneCalc h, fun hk => ⟨scaled_eq_count_of_toneCalc h hk, hpos, hle⟩,
    fun hk => ⟨scaled_ge_of_toneCalc h hk, hle⟩, rfl, Nat.sub_le_sub_right hle 1,
    fun hk => Nat.sub_le_sub_right (scaled_ge_of_toneCalc h hk) 1⟩

/-- Settles O35: the match period `P` and the count bound each other (R139), and the count and the clock do (R131). -/
theorem toneIsNeverFlat : Obligations.ToneIsNeverFlat := by
  unfold Obligations.ToneIsNeverFlat
  intro c f k sc h
  have hne := ne_zero_of_toneCalc h
  have hscaled := scaled_eq_of_toneCalc h
  have hlow : 2 ^ k.toNat * sc.toNat ≤ halfPeriodCount c f := hscaled ▸ Nat.mul_div_le ..
  have hhigh : halfPeriodCount c f + 1 ≤ 2 ^ k.toNat * sc.toNat + 2 ^ k.toNat :=
    hscaled ▸ Nat.lt_mul_div_succ (halfPeriodCount c f) (by positivity : 0 < 2 ^ k.toNat)
  have hclock : 2 * f.toNat * halfPeriodCount c f ≤ c.timerClock := mul_halfPeriodCount_le c f
  have hsucc : c.timerClock < 2 * f.toNat * (halfPeriodCount c f + 1) := lt_mul_halfPeriodCount_succ hne
  refine ⟨hlow, hhigh, hclock, hsucc, ?_, ?_, scaled_ge_of_toneCalc h, scaled_eq_count_of_toneCalc h⟩
  · calc f.toNat * (2 * (2 ^ k.toNat * sc.toNat)) = 2 * f.toNat * (2 ^ k.toNat * sc.toNat) := by ring
      _ ≤ 2 * f.toNat * halfPeriodCount c f := Nat.mul_le_mul_left _ hlow
      _ ≤ c.timerClock := hclock
  · calc c.timerClock * sc.toNat
        < 2 * f.toNat * (halfPeriodCount c f + 1) * sc.toNat :=
          Nat.mul_lt_mul_of_pos_right hsucc (one_le_scaled_of_toneCalc h)
      _ ≤ 2 * f.toNat * (2 ^ k.toNat * sc.toNat + 2 ^ k.toNat) * sc.toNat :=
          Nat.mul_le_mul_right _ (Nat.mul_le_mul_left _ hhigh)
      _ = f.toNat * (sc.toNat + 1) * (2 * (2 ^ k.toNat * sc.toNat)) := by ring

/-! ### The least and the greatest valid frequency (R141, R142) -/

/-- The two cases of R142 are one formula. -/
theorem fmin_eq (c : Params) : fmin c = c.timerClock / 2 ^ (c.nps + 8) + 1 := by
  rw [fmin]
  split
  case isTrue hslow =>
    rw [Nat.div_lt_iff_lt_mul Nat.two_pos, ← pow_succ] at hslow
    rw [Nat.div_eq_of_lt hslow]
  case isFalse => rfl

/-- R142: the count falls as the frequency rises, and from FMIN on it is below `2^(NPS + 7)`. -/
theorem fmin_le_iff {c : Params} {f : Hertz} (hne : f ≠ 0#16) :
    fmin c ≤ f.toNat ↔ halfPeriodCount c f < 2 ^ (c.nps + 7) := by
  have hdouble : 2 ^ (c.nps + 7) * (2 * f.toNat) = f.toNat * 2 ^ (c.nps + 8) := by ring
  rw [fmin_eq, Nat.succ_le_iff, Nat.div_lt_iff_lt_mul (by positivity), halfPeriodCount_eq_div,
    Nat.div_lt_iff_lt_mul (two_mul_toNat_pos hne), hdouble]

theorem le_fmax_iff {c : Params} {f : Hertz} : f.toNat ≤ fmax c ↔ f.toNat ≤ c.timerClock / 2 := by
  have hwidth : f.toNat ≤ 65535 := Nat.le_of_lt_succ f.isLt
  rw [fmax, le_min_iff, and_iff_right hwidth]

theorem validFreq_iff_range {c : Params} {f : Hertz} : ValidFreq c f ↔ fmin c ≤ f.toNat ∧ f.toNat ≤ fmax c := by
  by_cases hzero : f = 0#16
  · simp [validFreq_iff, hzero, fmin_eq]
  · rw [validFreq_iff, and_iff_right hzero, halfPeriodCount_pos_iff hzero, le_fmax_iff, fmin_le_iff hzero, and_comm]

/-- R101: operands with a frequency that is not valid raise a fault, that of the pin where it has one. -/
theorem settoneFault?_of_not_validFreq {c : Params} {f : Hertz} (hinvalid : ¬ ValidFreq c f) (p : PinIndex) :
    ∃ r, settoneFault? c p f = some r := by
  by_cases hpin : p.toNat < c.npins
  · by_cases hzero : f = 0#16
    · exact ⟨_, settoneFault?_of_freqZero hpin hzero⟩
    · rw [settoneFault?_of_ne_zero hpin hzero, calcFault?]
      cases hcalc : toneCalc c f with
      | error r => exact ⟨r, rfl⟩
      | ok r => exact absurd ⟨r.1, r.2, hcalc⟩ hinvalid
  · exact ⟨_, settoneFault?_of_pinInvalid (Nat.not_lt.mp hpin)⟩

/-- Settles O36: the valid frequencies as a range, and the configuration whose range is empty. -/
theorem validRange : Obligations.ValidRange := by
  unfold Obligations.ValidRange
  refine ⟨fun c f => validFreq_iff_range, by decide, fun s p f hidle hempty => ?_⟩
  have hinvalid : ¬ ValidFreq s.cfg f := fun hvalid => by
    obtain ⟨hmin, hmax⟩ := validFreq_iff_range.mp hvalid
    exact absurd (hmin.trans hmax) (Nat.not_le.mpr hempty)
  obtain ⟨r, hfault⟩ := settoneFault?_of_not_validFreq hinvalid p
  exact ⟨r, exec_settone_of_fault hidle hfault⟩

/-- R141 (a): when the step returned is the last one. -/
theorem step_last_iff_of_toneCalc {c : Params} {f : Hertz} {k : BitVec 4} {sc : BitVec 8}
    (h : toneCalc c f = .ok (k, sc)) :
    k.toNat = c.nps - 1 ↔ 2 ^ (c.nps + 6) ≤ halfPeriodCount c f ∨ c.nps = 1 := by
  have hlt := step_lt_of_toneCalc h
  by_cases hone : c.nps = 1
  · omega
  · have hprev := step_le_iff_of_toneCalc h (j := c.nps - 2)
    rw [show c.nps - 2 + 8 = c.nps + 6 by omega] at hprev
    omega

/-- From 2 Hz on, FMIN is so low that its count is in the upper half of what the last step can take: `FMIN - 1` is already
too low, and FMIN is at most twice that. -/
theorem le_halfPeriodCount_fmin {c : Params} {f : Hertz} (hmin : f.toNat = fmin c) (htwo : 2 ≤ f.toNat) :
    2 ^ (c.nps + 6) ≤ halfPeriodCount c f := by
  have hpred : f.toNat - 1 = c.timerClock / 2 ^ (c.nps + 8) := by rw [hmin, fmin_eq, Nat.add_sub_cancel]
  rw [halfPeriodCount_eq_div, Nat.le_div_iff_mul_le (by omega)]
  calc 2 ^ (c.nps + 6) * (2 * f.toNat)
      ≤ 2 ^ (c.nps + 6) * (4 * (f.toNat - 1)) := Nat.mul_le_mul_left _ (by omega)
    _ = 2 ^ (c.nps + 8) * (f.toNat - 1) := by ring
    _ ≤ c.timerClock := hpred ▸ Nat.mul_div_le ..

/-- Settles O37: each clause through the count of the frequency it names. -/
theorem boundaryFrequencies : Obligations.BoundaryFrequencies := by
  unfold Obligations.BoundaryFrequencies
  intro c f k sc h
  have hpos := two_mul_toNat_pos (ne_zero_of_toneCalc h)
  rw [step_last_iff_of_toneCalc h, step_eq_zero_iff_of_toneCalc h, halfPeriodCount_eq_div]
  refine ⟨fun hmin htwo => .inl ?_, fun _ hone => ?_, fun _ => Iff.rfl, fun hhalf => ?_, fun hmax hclock => ?_⟩
  · rw [← halfPeriodCount_eq_div]
    exact le_halfPeriodCount_fmin hmin htwo
  · rw [hone, Nat.mul_one]
  · exact Nat.le_of_lt_succ (Nat.div_lt_of_lt_mul (by omega))
  · exact Nat.le_of_lt_succ (Nat.div_lt_of_lt_mul (by omega))

end Sys2Proof.Machine
end

section
/-! PROOFS. The timer (spec/42_events.md R150 to R152, R159): one TICK in the terms of the rules, where the counter and
the divider stand a given number of TICKs after both were 0, and the statements O38, O40 and O41. -/

namespace Sys2Proof.Machine

/-! ### The division factor (R32) -/

theorem State.divisor_eq (s : State) : s.divisor = 2 ^ (s.tcr.toNat % 16) := by
  rw [State.divisor, State.ps, BitVec.extractLsb'_toNat, Nat.shiftRight_zero]

theorem State.divisor_pos (s : State) : 0 < s.divisor := by
  rw [State.divisor]
  positivity

theorem State.divisor_le (s : State) : s.divisor ≤ 2 ^ 15 := by
  rw [State.divisor]
  exact Nat.pow_le_pow_right Nat.two_pos (Nat.le_of_lt_succ s.ps.isLt)

/-! ### One TICK, and when there is one -/

/-- Settles O38: the three cases of a TICK. A divider that waits is below `2^15` and does not overflow. -/
theorem tickCountsAndMatches : Obligations.TickCountsAndMatches := by
  unfold Obligations.TickCountsAndMatches
  intro s
  have hle := s.divisor_le
  rw [← s.divisor_eq]
  refine ⟨enabled_tmr s, fun hwait => ⟨tick_of_wait (Nat.not_le.mpr hwait), ?_⟩, tick_of_match,
    fun hdue hcount => ⟨tick_of_count hdue hcount, ?_⟩⟩
  · bv_omega
  · exact BitVec.toNat_add ..

/-- Settles O41: the timer's turn is disabled while `RUN` is 0, and the only value written to `TCR` has `RUN` set. -/
theorem timerHoldsUntilRunAndNeverStops : Obligations.TimerHoldsUntilRunAndNeverStops := by
  unfold Obligations.TimerHoldsUntilRunAndNeverStops
  refine ⟨fun s hrun => agentStep_disabled hrun, fun s t hstep hrun => ?_⟩
  obtain ⟨-, htcr, -⟩ := onlyTheirWritersWriteTheTimer s t hstep
  by_cases hkeep : t.tcr = s.tcr
  · rw [hkeep, hrun]
  · obtain ⟨-, -, hvalue⟩ := htcr hkeep
    rw [hvalue]
    exact controlValue_run s.tK

/-! ### The timer as a function of the TICKs taken (R152) -/

/-- The match period `2^PS * (CMP + 1)`, in TICKs (R152). -/
def State.period (s : State) : Nat := s.divisor * (s.cmp.toNat + 1)

/-- The counter and the divider `n` TICKs after both were 0. -/
def State.atTick (s : State) (n : Nat) : State :=
  { s with
    cnt := BitVec.ofNat 8 (n / s.divisor % (s.cmp.toNat + 1))
    psc := BitVec.ofNat 16 (n % s.divisor) }

theorem State.period_pos (s : State) : 0 < s.period := Nat.mul_pos s.divisor_pos (Nat.succ_pos _)

/-- A match period is over when the divider's interval and the counter's cycle both are. -/
theorem State.period_dvd_iff (s : State) (n : Nat) :
    s.period ∣ n ↔ n % s.divisor = 0 ∧ n / s.divisor % (s.cmp.toNat + 1) = 0 := by
  have hpos := s.divisor_pos.ne'
  rw [Nat.dvd_iff_mod_eq_zero, State.period, Nat.mod_mul, Nat.add_eq_zero_iff, Nat.mul_eq_zero, or_iff_right hpos]

theorem State.atTick_psc_toNat (s : State) (n : Nat) : (s.atTick n).psc.toNat = n % s.divisor := by
  have hlt := Nat.mod_lt n s.divisor_pos
  have hle := s.divisor_le
  rw [State.atTick, BitVec.toNat_ofNat, Nat.mod_eq_of_lt (by omega)]

theorem State.atTick_cnt_eq_cmp_iff (s : State) (n : Nat) :
    (s.atTick n).cnt = s.cmp ↔ s.cmp.toNat + 1 ≤ n / s.divisor % (s.cmp.toNat + 1) + 1 := by
  have hlt := Nat.mod_lt (n / s.divisor) (Nat.add_one_pos s.cmp.toNat)
  have hwidth := s.cmp.isLt
  rw [State.atTick, ← BitVec.toNat_inj, BitVec.toNat_ofNat, Nat.mod_eq_of_lt (by omega)]
  omega

/-- A whole number of match periods brings the counter and the divider back to 0. -/
theorem State.atTick_of_period_dvd {s : State} {n : Nat} (hcnt : s.cnt = 0#8) (hpsc : s.psc = 0#16)
    (hdvd : s.period ∣ n) : s.atTick n = s := by
  obtain ⟨hmod, hdiv⟩ := (s.period_dvd_iff n).mp hdvd
  rw [State.atTick, hmod, hdiv, ← hcnt, ← hpsc]

theorem succ_div_mod_of_lt {n d : Nat} (h : n % d + 1 < d) : (n + 1) / d = n / d ∧ (n + 1) % d = n % d + 1 := by
  have hsplit := Nat.mod_add_div n d
  exact (Nat.div_mod_unique (by omega)).mpr ⟨by omega, h⟩

theorem succ_div_mod_of_le {n d : Nat} (hpos : 0 < d) (h : d ≤ n % d + 1) :
    (n + 1) / d = n / d + 1 ∧ (n + 1) % d = 0 := by
  have hsplit := Nat.mod_add_div n d
  have hlt := Nat.mod_lt n hpos
  exact (Nat.div_mod_unique hpos).mpr ⟨by rw [Nat.mul_succ]; omega, hpos⟩

/-- R150, R151: a TICK goes on to the next place in the match period, and it matches at the end of one. -/
theorem tick_atTick (s : State) (n : Nat) :
    tick (s.atTick n) = { s.atTick (n + 1) with mp := s.mp || decide (s.period ∣ n + 1) } := by
  have hpsc := s.atTick_psc_toNat n
  by_cases hdue : s.divisor ≤ n % s.divisor + 1
  · obtain ⟨hdiv, hmod⟩ := succ_div_mod_of_le s.divisor_pos hdue
    have hdue' : (s.atTick n).psc.toNat + 1 ≥ (s.atTick n).divisor := by rw [hpsc]; exact hdue
    by_cases hmatch : s.cmp.toNat + 1 ≤ n / s.divisor % (s.cmp.toNat + 1) + 1
    · obtain ⟨-, hcycle⟩ := succ_div_mod_of_le s.cmp.toNat.succ_pos hmatch
      rw [tick_of_match hdue' ((s.atTick_cnt_eq_cmp_iff n).mpr hmatch)]
      simp [State.atTick, State.period_dvd_iff, hdiv, hmod, hcycle]
    · obtain ⟨-, hcycle⟩ := succ_div_mod_of_lt (Nat.not_le.mp hmatch)
      rw [tick_of_count hdue' (mt (s.atTick_cnt_eq_cmp_iff n).mp hmatch)]
      simp [State.atTick, State.period_dvd_iff, hdiv, hmod, hcycle, BitVec.ofNat_add]
  · obtain ⟨hdiv, hmod⟩ := succ_div_mod_of_lt (Nat.not_le.mp hdue)
    rw [tick_of_wait (by rw [hpsc]; exact hdue)]
    simp [State.atTick, State.period_dvd_iff, hdiv, hmod, BitVec.ofNat_add]

theorem ticks_eq_iterate (n : Nat) (s : State) : ticks n s = tick^[n] s := by
  induction n generalizing s with
  | zero => rfl
  | succ n ih => rw [ticks, ih, Function.iterate_succ_apply]

/-- Where TICKs alone lead from a counter and a divider at 0: a match is pending from the end of the first period on. -/
theorem ticks_eq_atTick {s : State} (hcnt : s.cnt = 0#8) (hpsc : s.psc = 0#16) (n : Nat) :
    ticks n s = { s.atTick n with mp := s.mp || decide (s.period ≤ n) } := by
  rw [ticks_eq_iterate]
  induction n with
  | zero => simp [State.atTick_of_period_dvd hcnt hpsc (dvd_zero _), s.period_pos.ne']
  | succ n ih =>
    have hpending : s.period ≤ n + 1 ↔ s.period ≤ n ∨ s.period ∣ n + 1 :=
      ⟨fun hle => (Nat.le_succ_iff.mp hle).imp_right dvd_of_eq,
        fun h => h.elim Nat.le_succ_of_le (Nat.le_of_dvd n.succ_pos)⟩
    rw [Function.iterate_succ_apply', ih]
    refine (tick_atTick { s with mp := s.mp || decide (s.period ≤ n) } n).trans ?_
    simp only [hpending, Bool.decide_or, ← Bool.or_assoc]
    rfl

/-- Settles O40: no TICK of the first period but its last raises `MP`, and that one ends the period. -/
theorem matchPeriodIsExact : Obligations.MatchPeriodIsExact := by
  unfold Obligations.MatchPeriodIsExact
  intro s d hd hcnt hpsc hmp
  rw [hd, ← s.divisor_eq]
  refine ⟨fun m hm => ?_, ?_⟩
  · have hearly : ¬ s.period ≤ m := Nat.not_le.mpr hm
    simp [ticks_eq_atTick hcnt hpsc, hmp, hearly]
  · rw [← State.period, ticks_eq_atTick hcnt hpsc, State.atTick_of_period_dvd hcnt hpsc dvd_rfl]
    simp

end Sys2Proof.Machine
end

section
/-! PROOFS. The handler (spec/42_events.md R154, R155; O42, O43), and the square wave it makes of the matches (R157,
O44): the exact state after any number of TICKs and dispatches, and what a turn of each agent makes of it. -/

namespace Sys2Proof.Machine

/-! ### One dispatch -/

/-- Settles O42: the turn of the enabled handler, the fault of a pin not recorded, the turn of the disabled handler, and
the invariant's clause about the enabled interrupt. -/
theorem handlerTogglesTheRecordedPin : Obligations.HandlerTogglesTheRecordedPin := by
  unfold Obligations.HandlerTogglesTheRecordedPin
  refine ⟨fun s p hie hmp hpin => ?_, fun s hie hmp hnone => ?_, fun s hoff => ?_, fun s hinv hie hnone => ?_⟩
  · rw [agentStep_irq_of_recordedPin hie hmp hpin]
    simp [State.pinToggle, State.record, State.clearMatch]
  · rw [agentStep_irq ((enabled_irq_iff s).mpr ⟨hie, hmp⟩), takeInterrupt, withPin_none hnone]
  · refine agentStep_disabled (Bool.eq_false_iff.mpr fun hon => ?_)
    obtain ⟨hie, hmp⟩ := (enabled_irq_iff s).mp hon
    simp [hie, hmp] at hoff
  · rw [hinv.enabledPin hnone] at hie
    cases hie

/-- Settles O43: the only next state of a dispatch, and the one entry that a toggle modifies. -/
theorem handlerTouchesOneLatch : Obligations.HandlerTouchesOneLatch := by
  unfold Obligations.HandlerTouchesOneLatch
  intro s t p hie hmp hpin hstep
  obtain rfl := Host.Outcome.next.inj ((agentStep_irq_of_recordedPin hie hmp hpin).symm.trans hstep)
  refine ⟨rfl, pinToggle_lvl_length _ p, fun b hb => ?_, fun q hq => pinToggle_lvl_of_ne _ p hq⟩
  exact (List.getElem?_modify_eq not p.toNat s.lvl).trans (congrArg (Option.map not) hb)

/-! ### Turns one after another -/

theorem runTurns_cons {a : Agent} {rest : List Agent} {s t : State} (h : agentStep a s = .next t) :
    runTurns (a :: rest) s = runTurns rest t := by
  simp only [runTurns, h]

theorem runTurns_append {turns rest : List Agent} {s t : State} (h : runTurns turns s = .next t) :
    runTurns (turns ++ rest) s = runTurns rest t := by
  induction turns generalizing s with
  | nil => cases h; rfl
  | cons a turns ih =>
    cases hstep : agentStep a s with
    | next u =>
      rw [runTurns_cons hstep] at h
      rw [List.cons_append, runTurns_cons hstep, ih h]
    | fault r => simp only [runTurns, hstep, reduceCtorEq] at h
    | refused r => simp only [runTurns, hstep, reduceCtorEq] at h

theorem runTurns_concat {turns : List Agent} {a : Agent} {s t u : State} (h : runTurns turns s = .next t)
    (hstep : agentStep a t = .next u) : runTurns (turns ++ [a]) s = .next u := by
  rw [runTurns_append h, runTurns_cons hstep, runTurns]

/-! ### The wave (R157) -/

/-- The state `n` TICKs and `toggles` dispatches after the steady state `s`, with a match pending or not. -/
def State.sounding (s : State) (p : PinIndex) (n toggles : Nat) (pending : Bool) : State :=
  { s.atTick n with
    mp := pending
    lvl := if toggles % 2 = 1 then s.lvl.modify p.toNat not else s.lvl
    history := s.history ++ (List.replicate toggles [.dispatch, .pinToggle p]).flatten }

theorem modify_not_modify_not (l : List Bool) (i : Nat) : (l.modify i not).modify i not = l := by
  rw [List.modify_modify_eq, show not ∘ not = id from funext Bool.not_not, List.modify_id]

theorem sounding_zero {s : State} (hcnt : s.cnt = 0#8) (hpsc : s.psc = 0#16) (hmp : s.mp = false) (p : PinIndex) :
    s.sounding p 0 0 false = s := by
  simp [State.sounding, State.atTick_of_period_dvd hcnt hpsc (dvd_zero _), ← hmp]

theorem sounding_dispatches (s : State) (p : PinIndex) (n toggles : Nat) (pending : Bool) :
    (s.sounding p n toggles pending).history.count .dispatch = s.history.count .dispatch + toggles := by
  simp [State.sounding, List.count_flatten]

/-- One dispatch more inverts the level and appends its two events. -/
theorem sounding_toggle (s : State) (p : PinIndex) (n toggles : Nat) :
    (((s.sounding p n toggles true).clearMatch.record .dispatch).pinToggle p) =
      s.sounding p n (toggles + 1) false := by
  have hlvl : (s.sounding p n toggles true).lvl.modify p.toNat not = (s.sounding p n (toggles + 1) false).lvl := by
    rcases Nat.mod_two_eq_zero_or_one toggles with hparity | hparity
    · simp [State.sounding, Nat.succ_mod_two_eq_one_iff, hparity]
    · simp [State.sounding, Nat.succ_mod_two_eq_one_iff, hparity, modify_not_modify_not]
  have hhistory : (s.sounding p n toggles true).history ++ [.dispatch] ++ [.pinToggle p] =
      (s.sounding p n (toggles + 1) false).history := by
    simp [State.sounding, List.replicate_succ']
  rw [State.pinToggle, State.record, State.record, State.clearMatch, hlvl, hhistory]
  rfl

section Turns

variable {s : State} {p : PinIndex} (n toggles : Nat) (pending : Bool)

/-- The sequencer of an idle block has nothing to do. -/
theorem agentStep_seq_sounding (hidle : s.ph = .idle) :
    agentStep .seq (s.sounding p n toggles pending) = .next (s.sounding p n toggles pending) := by
  refine agentStep_disabled (Bool.eq_false_iff.mpr fun hon => ?_)
  exact (enabled_seq_iff _).mp hon hidle

theorem agentStep_tmr_sounding (hrun : s.tcr.getLsbD 7 = true) :
    agentStep .tmr (s.sounding p n toggles pending) =
      .next (s.sounding p (n + 1) toggles (pending || decide (s.period ∣ n + 1))) := by
  have htick := tick_atTick { s with
    mp := pending, lvl := (s.sounding p n toggles pending).lvl,
    history := (s.sounding p n toggles pending).history } n
  exact (agentStep_tmr (s := s.sounding p n toggles pending) hrun).trans (congrArg _ htick)

/-- The handler serves the match pending, if one is. -/
theorem agentStep_irq_sounding (hie : s.ie = true) (hpin : s.recordedPin = some p) :
    agentStep .irq (s.sounding p n toggles pending) =
      .next (s.sounding p n (toggles + pending.toNat) false) := by
  cases pending with
  | true =>
    rw [agentStep_irq_of_recordedPin (s := s.sounding p n toggles true) hie rfl hpin, sounding_toggle]
    rfl
  | false => exact agentStep_disabled (by simp [enabled, State.irqEnabled, State.sounding])

end Turns

/-- A TICK ends a match period, and so adds one to their number, or does not. -/
theorem succ_div_period (n P : Nat) : (n + 1) / P = n / P + (decide (P ∣ n + 1)).toNat := by
  rw [Nat.succ_div]
  split <;> simp [*]

section SquareWave

variable {s : State} {p : PinIndex} (hie : s.ie = true) (hpin : s.recordedPin = some p)
  (hrun : s.tcr.getLsbD 7 = true) (hcnt : s.cnt = 0#8) (hpsc : s.psc = 0#16) (hmp : s.mp = false)
include hie hpin hrun hcnt hpsc hmp

/-- Each TICK followed by a turn of the handler: no match is left pending. -/
theorem runTurns_tick_dispatch (m : Nat) :
    runTurns (List.replicate m [Agent.tmr, .irq]).flatten s = .next (s.sounding p m (m / s.period) false) := by
  induction m with
  | zero => rw [Nat.zero_div, sounding_zero hcnt hpsc hmp]; rfl
  | succ m ih =>
    rw [List.replicate_succ', List.flatten_append, List.flatten_singleton, runTurns_append ih,
      runTurns_cons (agentStep_tmr_sounding m _ false hrun), runTurns_cons (agentStep_irq_sounding _ _ _ hie hpin),
      Bool.false_or, ← succ_div_period, runTurns]

/-- Turns in any order in which a TICK that matches finds the match before it dispatched: the dispatches and the match
still pending are the periods that have passed. -/
theorem runTurns_served (hidle : s.ph = .idle) {turns : List Agent} (hagents : ∀ a ∈ turns, a ≠ .host)
    (hserved : ∀ (before : List Agent) (v : State), before ++ [Agent.tmr] <+: turns → runTurns before s = .next v →
      (before.count .tmr + 1) % s.period = 0 → v.mp = false) :
    ∃ toggles pending, runTurns turns s = .next (s.sounding p (turns.count .tmr) toggles pending) ∧
      toggles + pending.toNat = turns.count .tmr / s.period := by
  induction turns using List.reverseRecOn with
  | nil => exact ⟨0, false, by rw [List.count_nil, sounding_zero hcnt hpsc hmp]; rfl, (Nat.zero_div _).symm⟩
  | append_singleton turns a ih =>
    obtain ⟨hbefore, hlast⟩ := List.forall_mem_append.mp hagents
    obtain ⟨toggles, pending, hturns, hcount⟩ :=
      ih hbefore fun before v hprefix => hserved before v (hprefix.trans (List.prefix_append ..))
    rw [List.count_append]
    cases a with
    | host => exact absurd rfl (hlast _ (List.mem_singleton_self _))
    | seq => exact ⟨toggles, pending, runTurns_concat hturns (agentStep_seq_sounding _ _ _ hidle), hcount⟩
    | irq => exact ⟨_, false, runTurns_concat hturns (agentStep_irq_sounding _ _ _ hie hpin), hcount⟩
    | tmr =>
      refine ⟨toggles, _, runTurns_concat hturns (agentStep_tmr_sounding _ _ _ hrun), ?_⟩
      rw [List.count_singleton_self, succ_div_period, ← hcount]
      by_cases hends : s.period ∣ turns.count .tmr + 1
      · have hfree : pending = false := hserved turns _ List.prefix_rfl hturns (Nat.mod_eq_zero_of_dvd hends)
        simp [hfree, hends]
      · simp [hends]

end SquareWave

/-! ### The timer of the frequency `FREQ` holds (R24, R152) -/

section Programmed

variable {s : State} {k : BitVec 4} {sc : BitVec 8} (hinv : s.Inv) (hidle : s.ph = .idle)
  (hcalc : toneCalc s.cfg s.freq = .ok (k, sc))
include hinv hidle hcalc

theorem State.Inv.programmed_of_idle : s.cmp = compareValue sc ∧ s.tcr = controlValue k := by
  obtain ⟨k', sc', hcalc', hcmp, htcr⟩ := hinv.programmed (by rw [hidle]; rfl) (ne_zero_of_toneCalc hcalc)
  cases hcalc.symm.trans hcalc'
  exact ⟨hcmp, htcr⟩

theorem State.Inv.period_of_idle : s.period = 2 ^ k.toNat * sc.toNat := by
  obtain ⟨hcmp, htcr⟩ := hinv.programmed_of_idle hidle hcalc
  have hstep : (128 + k.toNat) % 16 = k.toNat := by omega
  rw [State.period, s.divisor_eq, hcmp, htcr, controlValue_toNat, hstep, compareValue_toNat_of_toneCalc hcalc,
    Nat.sub_add_cancel (one_le_scaled_of_toneCalc hcalc)]

end Programmed

/-- Settles O44: the timer runs with the period of R157, both runs of turns end in `State.sounding`, and the bounds of
the rate are those of R140. -/
theorem squareWaveIsExact : Obligations.SquareWaveIsExact := by
  unfold Obligations.SquareWaveIsExact
  intro s p k sc hinv hidle _ hcalc hie hpin hcnt hpsc hmp
  obtain ⟨-, htcr⟩ := hinv.programmed_of_idle hidle hcalc
  have hrun : s.tcr.getLsbD 7 = true := htcr ▸ controlValue_run k
  obtain ⟨-, -, -, -, hlow, hhigh, -, -⟩ := toneIsNeverFlat s.cfg s.freq k sc hcalc
  refine ⟨fun m => ?_, fun turns hagents hserved => ?_, ?_, ?_⟩
  · rw [← hinv.period_of_idle hidle hcalc]
    exact ⟨_, runTurns_tick_dispatch hie hpin hrun hcnt hpsc hmp m, rfl, sounding_dispatches .., rfl, hie, rfl⟩
  · rw [← hinv.period_of_idle hidle hcalc] at hserved ⊢
    obtain ⟨toggles, pending, hturns, hcount⟩ := runTurns_served hie hpin hrun hcnt hpsc hmp hidle hagents hserved
    refine ⟨_, toggles, hturns, ?_, rfl, sounding_dispatches .., rfl, hie, rfl⟩
    rw [← hcount]
    cases pending <;> rfl
  · calc 2 * s.freq.toNat * (2 ^ k.toNat * sc.toNat) = s.freq.toNat * (2 * (2 ^ k.toNat * sc.toNat)) := by ring
      _ ≤ s.cfg.timerClock := hlow
  · calc s.cfg.timerClock * sc.toNat < s.freq.toNat * (sc.toNat + 1) * (2 * (2 ^ k.toNat * sc.toNat)) := hhigh
      _ = 2 * s.freq.toNat * (sc.toNat + 1) * (2 ^ k.toNat * sc.toNat) := by ring

end Sys2Proof.Machine
end

section
/-! PROOFS. Fair runs (spec/42_events.md R158): the micro-steps that a phase can still have before it fall with every
micro-step and never rise before `IDLE`, so that fairness for the sequencer ends every command (O59). -/

namespace Sys2Proof.Machine

/-- The greatest number of micro-steps from a phase to `IDLE` (R122). -/
def Phase.stepsLeft : Phase → Nat
  | .idle => 0
  | .init1 | .set3 | .stop2 => 1
  | .set2eTcr | .stop1 => 2
  | .set2eCmp => 3
  | .set2d => 4
  | .set2c => 5
  | .set2b => 6
  | .set2aLow => 7
  | .set2aMode => 8
  | .set1 => 9

theorem MicroStep.stepsLeft_lt {s t : State} (h : MicroStep s t) : t.ph.stepsLeft < s.ph.stepsLeft := by
  cases h <;> simp [*, Phase.stepsLeft]

/-- While a command is in progress the agents other than the sequencer leave `PH` alone. -/
theorem AgentStep.ph_eq_of_busy {a : Agent} {s t : State} (h : AgentStep a s t) (hother : a ≠ .seq)
    (hbusy : s.ph ≠ .idle) : t.ph = s.ph := by
  cases h with
  | disabled => rfl
  | host hidle => exact absurd hidle hbusy
  | seq => exact absurd rfl hother
  | tmr => exact tick_ph s
  | irq => rfl

theorem AgentStep.stepsLeft_le {a : Agent} {s t : State} (h : AgentStep a s t) (hbusy : s.ph ≠ .idle) :
    t.ph.stepsLeft ≤ s.ph.stepsLeft := by
  by_cases hseq : a = .seq
  · subst hseq
    exact (h.microStep hbusy).stepsLeft_lt.le
  · rw [h.ph_eq_of_busy hseq hbusy]

section FairRun

variable {order : Nat → Agent} {run : Nat → State} (h : FairRun order run)
include h

theorem FairRun.stepsLeft_le {n m : Nat} (hle : n ≤ m) (hbusy : ∀ j, n ≤ j → (run j).ph ≠ .idle) :
    (run m).ph.stepsLeft ≤ (run n).ph.stepsLeft := by
  induction m, hle using Nat.le_induction with
  | base => exact le_rfl
  | succ m hle ih => exact ((agentStep_next (h.steps m)).stepsLeft_le (hbusy m hle)).trans ih

/-- A command that never ended would still have its sequencer enabled for ever, whose turn would then come. -/
theorem FairRun.stepsLeft_falls {n : Nat} (hbusy : ∀ j, n ≤ j → (run j).ph ≠ .idle) :
    ∃ m, n ≤ m ∧ (run m).ph.stepsLeft < (run n).ph.stepsLeft := by
  obtain ⟨m, hle, hturn⟩ := h.fair .seq (by decide) n fun j hj => (enabled_seq_iff _).mpr (hbusy j hj)
  have hstep := agentStep_next (h.steps m)
  rw [hturn] at hstep
  exact ⟨m + 1, Nat.le_succ_of_le hle,
    (hstep.microStep (hbusy m hle)).stepsLeft_lt.trans_le (h.stepsLeft_le hle hbusy)⟩

end FairRun

/-- Settles O59, by strong induction on the number of micro-steps left. -/
theorem fairRunFinishesTheCommand : Obligations.FairRunFinishesTheCommand := by
  unfold Obligations.FairRunFinishesTheCommand
  intro order run h n
  induction hleft : (run n).ph.stepsLeft using Nat.strong_induction_on generalizing n with
  | h left ih =>
    by_contra hnever
    have hbusy : ∀ j, n ≤ j → (run j).ph ≠ .idle := fun j hj hidle => hnever ⟨j, hj, hidle⟩
    obtain ⟨m, hle, hlt⟩ := h.stepsLeft_falls hbusy
    obtain ⟨j, hj, hidle⟩ := ih _ (hleft ▸ hlt) m rfl
    exact hnever ⟨j, hle.trans hj, hidle⟩

end Sys2Proof.Machine
end

section
/-! PROOFS. The reconfiguration count (spec/60_exceptions.md R181): how often the net effect of each command writes
`CMP` or `TCR`, and that a command run whole to a next state has that effect (O52). -/

namespace Sys2Proof.Machine

/-! ### The count after each command -/

theorem State.reconfCount_retuned (s : State) (p : PinIndex) (f : Hertz) (k : BitVec 4) (sc : BitVec 8) :
    (s.retuned p f k sc).reconfCount = s.reconfCount + 2 := by
  simp [State.reconfCount, State.retuned]

theorem State.reconfCount_retargeted (s : State) (p : PinIndex) (f : Hertz) :
    (s.retargeted p f).reconfCount = s.reconfCount := rfl

theorem State.reconfCount_silenced (s : State) (q p : PinIndex) : (s.silenced q p).reconfCount = s.reconfCount := by
  simp [State.reconfCount, State.silenced]

/-! ### A command that ended with no fault -/

/-- R101: operands that pass the precondition name a pin of the block and a frequency that `Calc` answers for. -/
theorem valid_of_settoneFault?_eq_none {c : Params} {p : PinIndex} {f : Hertz} (hnone : settoneFault? c p f = none) :
    p.toNat < c.npins ∧ ValidFreq c f := by
  refine ⟨?_, ?_⟩ <;> by_contra hinvalid
  · rw [settoneFault?_of_pinInvalid (Nat.not_lt.mp hinvalid)] at hnone
    cases hnone
  · obtain ⟨r, hfault⟩ := settoneFault?_of_not_validFreq hinvalid p
    rw [hfault] at hnone
    cases hnone

theorem exec_of_runCommand_next {i : Instr} {s t : State} (h : runCommand i s = .next t) :
    ∃ u, exec i s = .next u := by
  cases hexec : exec i s with
  | next u => exact ⟨u, rfl⟩
  | fault r => simp [runCommand, hexec] at h
  | refused r => simp [runCommand, hexec] at h

section Ended

variable {s t : State} (hidle : s.ph = .idle) {p : PinIndex} {f : Hertz}
include hidle

/-- The operands of a SETTONE that ended passed its precondition. -/
theorem valid_of_runCommand_settone (h : runCommand (.settone p f) s = .next t) :
    p.toNat < s.cfg.npins ∧ ValidFreq s.cfg f := by
  obtain ⟨u, hexec⟩ := exec_of_runCommand_next h
  cases hfault : settoneFault? s.cfg p f with
  | none => exact valid_of_settoneFault?_eq_none hfault
  | some r => cases (exec_settone_of_fault hidle hfault).symm.trans hexec

theorem reconfCount_settone_long (h : runCommand (.settone p f) s = .next t) (hne : f ≠ s.freq) :
    t.reconfCount = s.reconfCount + 2 := by
  obtain ⟨hpin, k, sc, hcalc⟩ := valid_of_runCommand_settone hidle h
  obtain rfl := Host.Outcome.next.inj ((runCommand_settone_long hidle hpin hcalc hne).symm.trans h)
  exact s.reconfCount_retuned p f k sc

theorem reconfCount_settone_short (h : runCommand (.settone p f) s = .next t) (heq : f = s.freq) :
    t.reconfCount = s.reconfCount := by
  obtain ⟨hpin, k, sc, hcalc⟩ := valid_of_runCommand_settone hidle h
  obtain rfl := Host.Outcome.next.inj ((runCommand_settone_short hidle hpin hcalc heq).symm.trans h)
  exact s.reconfCount_retargeted p f

theorem reconfCount_init (h : runCommand .init s = .next t) : t.reconfCount = s.reconfCount := by
  obtain ⟨-, -, hinit⟩ := initSetsFrequencyZero
  obtain rfl := Host.Outcome.next.inj ((hinit s hidle).symm.trans h)
  rfl

theorem reconfCount_stoptone (h : runCommand (.stoptone p) s = .next t) : t.reconfCount = s.reconfCount := by
  cases hpin : s.recordedPin with
  | none => cases (runCommand_stoptone_of_none hidle p hpin).symm.trans h
  | some q =>
    obtain rfl := Host.Outcome.next.inj ((runCommand_stoptone_of_some hidle p hpin).symm.trans h)
    exact s.reconfCount_silenced p q

end Ended

/-- Settles O52: the long path of SETTONE writes `CMP` once and `TCR` once; its short path, INIT and STOPTONE write
neither. -/
theorem reconfigurationCount : Obligations.ReconfigurationCount := by
  unfold Obligations.ReconfigurationCount
  exact fun s t hidle => ⟨fun p f => reconfCount_settone_long hidle, fun p f => reconfCount_settone_short hidle,
    reconfCount_init hidle, fun p => reconfCount_stoptone hidle⟩

end Sys2Proof.Machine
end

section
/-! PROOFS. The next match from any counter and divider (spec/70_reset_and_hazards.md R209, R210): the TICKs until it
fall by one with every TICK, also where the counter stands past `CMP` and has to wrap first (O39). -/

namespace Sys2Proof.Machine

/-! ### How far the next match is -/

/-- The TICKs until the next match: those until the divider's interval ends, and a whole interval for each further
counter step. The subtraction wraps as the counter does, so a counter past `CMP` goes through 255. -/
def State.ticksToMatch (s : State) : Nat :=
  max 1 (s.divisor - s.psc.toNat) + s.divisor * (s.cmp - s.cnt).toNat

/-- The state that a match leaves (R151). -/
def State.matched (s : State) : State := { s with psc := 0, cnt := 0, mp := true }

theorem State.ticksToMatch_pos (s : State) : 0 < s.ticksToMatch :=
  Nat.add_pos_left (Nat.lt_of_lt_of_le Nat.one_pos (Nat.le_max_left ..)) _

/-- A TICK changes nothing of the state that a match leaves. -/
theorem matched_tick (s : State) : (tick s).matched = s.matched := by
  rw [tick_frame]
  rfl

theorem toNat_sub_of_ne {m c : TimerReg} (h : c ≠ m) : (m - c).toNat = (m - (c + 1)).toNat + 1 := by
  bv_omega

section Tick

variable {s : State}

theorem ticksToMatch_of_match (hdue : s.psc.toNat + 1 ≥ s.divisor) (hmatch : s.cnt = s.cmp) : s.ticksToMatch = 1 := by
  simp only [State.ticksToMatch, hmatch, BitVec.sub_self, BitVec.toNat_zero, Nat.mul_zero]
  omega

theorem ticksToMatch_tick_of_wait (hwait : ¬ s.psc.toNat + 1 ≥ s.divisor) :
    (tick s).ticksToMatch + 1 = s.ticksToMatch := by
  have hle := s.divisor_le
  have hpsc : (s.psc + 1).toNat = s.psc.toNat + 1 := by bv_omega
  have hafter : (tick s).ticksToMatch =
      max 1 (s.divisor - (s.psc.toNat + 1)) + s.divisor * (s.cmp - s.cnt).toNat := by
    rw [tick_of_wait hwait, ← hpsc]
    rfl
  rw [hafter, State.ticksToMatch]
  omega

theorem ticksToMatch_tick_of_count (hdue : s.psc.toNat + 1 ≥ s.divisor) (hcount : s.cnt ≠ s.cmp) :
    (tick s).ticksToMatch + 1 = s.ticksToMatch := by
  have hafter : (tick s).ticksToMatch = s.divisor + s.divisor * (s.cmp - (s.cnt + 1)).toNat := by
    rw [tick_of_count hdue hcount]
    exact congrArg (· + _) (Nat.max_eq_right s.divisor_pos)
  rw [hafter, State.ticksToMatch, toNat_sub_of_ne hcount, Nat.mul_succ]
  omega

end Tick

/-- A TICK is the next match, or it brings the next match nearer by one and leaves `MP` alone. -/
theorem tick_nears_match (s : State) :
    (s.ticksToMatch = 1 ∧ tick s = s.matched) ∨
      ((tick s).ticksToMatch + 1 = s.ticksToMatch ∧ (tick s).mp = s.mp) := by
  by_cases hdue : s.psc.toNat + 1 ≥ s.divisor
  · by_cases hmatch : s.cnt = s.cmp
    · exact .inl ⟨ticksToMatch_of_match hdue hmatch, tick_of_match hdue hmatch⟩
    · exact .inr ⟨ticksToMatch_tick_of_count hdue hmatch, by rw [tick_of_count hdue hmatch]⟩
  · exact .inr ⟨ticksToMatch_tick_of_wait hdue, by rw [tick_of_wait hdue]⟩

/-! ### The TICKs until the next match, and after it -/

theorem ticks_reach_match {n : Nat} {s : State} (hn : n = s.ticksToMatch) :
    ticks n s = s.matched ∧ ∀ m, m < n → (ticks m s).mp = s.mp := by
  induction n generalizing s with
  | zero => exact absurd hn s.ticksToMatch_pos.ne
  | succ n ih =>
    rcases tick_nears_match s with ⟨hone, hmatch⟩ | ⟨hnearer, hmp⟩
    · obtain rfl : n = 0 := by omega
      refine ⟨hmatch, fun m hm => ?_⟩
      obtain rfl := Nat.lt_one_iff.mp hm
      rfl
    · obtain ⟨hend, hbefore⟩ := ih (s := tick s) (by omega)
      refine ⟨hend.trans (matched_tick s), fun m hm => ?_⟩
      cases m with
      | zero => rfl
      | succ m => exact (hbefore m (by omega)).trans hmp

theorem ticks_add (m n : Nat) (s : State) : ticks (n + m) s = ticks m (ticks n s) := by
  simp only [ticks_eq_iterate, Nat.add_comm n m, Function.iterate_add_apply]

/-- From a match on the timer is back at the same state every full period. -/
theorem ticks_periods_matched (j : Nat) (s : State) : ticks (j * s.period) s.matched = s.matched := by
  have hdvd : s.matched.period ∣ j * s.period := Dvd.intro_left j rfl
  rw [ticks_eq_atTick rfl rfl, State.atTick_of_period_dvd rfl rfl hdvd]
  rfl

/-- The distance to the next match in the rule's own terms (R209): a counter up to `CMP`, and one past it. -/
theorem ticksToMatch_eq (s : State) : s.ticksToMatch = max 1 (s.divisor - s.psc.toNat) + s.divisor *
    ((if s.cnt.toNat ≤ s.cmp.toNat then s.cmp.toNat - s.cnt.toNat + 1
      else 257 - s.cnt.toNat + s.cmp.toNat) - 1) := by
  rw [State.ticksToMatch, BitVec.toNat_sub]
  congr 2
  split <;> omega

/-- Settles O39: the TICKs until the next match fall by one with each, and a match starts the period of R152. -/
theorem nextMatchIsOnTime : Obligations.NextMatchIsOnTime := by
  unfold Obligations.NextMatchIsOnTime
  refine ⟨fun s t p f hexec => ?_, fun s hrun => agentStep_tmr hrun, fun s d steps n hd hsteps hn => ?_⟩
  · obtain ⟨⟨-, -, hcnt, hpsc, -⟩, -⟩ := settoneFrame s t p f hexec
    exact ⟨hcnt, hpsc⟩
  · rw [← s.divisor_eq] at hd
    have hdue : n = s.ticksToMatch := by rw [hn, hsteps, hd, ticksToMatch_eq]
    obtain ⟨hmatch, hbefore⟩ := ticks_reach_match hdue
    refine ⟨hmatch, hbefore, fun j => ?_⟩
    rw [hd, ← State.period, ticks_add, hmatch, ticks_periods_matched]
    rfl

end Sys2Proof.Machine
end

section
/-! PROOFS. A SETTONE issued while the interrupt is masked (spec/70_reset_and_hazards.md R205): until the command ends
the interrupt stays masked, so the turns of the other agents change the counters alone, and `SET_3` finds what the
micro-steps by themselves lead to (O57). -/

namespace Sys2Proof.Machine

/-! ### Masked while a command is in progress -/

/-- `SET_3` alone unmasks the interrupt, and it ends the command (R112). -/
theorem MicroStep.masked_or_idle {s t : State} (h : MicroStep s t) (hmasked : s.ie = false) :
    t.ie = false ∨ t.ph = .idle := by
  cases h with
  | set3 => exact .inr rfl
  | set2d | stop1 => exact .inl rfl
  | _ => exact .inl hmasked

theorem Steps.ph_ne_idle {n : Nat} {s e : State} (h : Steps MicroStep n s e) (hbusy : e.ph ≠ .idle) :
    s.ph ≠ .idle := by
  cases h with
  | done => exact hbusy
  | step hmicro => exact hmicro.ph_ne_idle

theorem SameButCounters.trans {s t u : State} (h : SameButCounters s t) (h' : SameButCounters t u) :
    SameButCounters s u := by
  rw [SameButCounters, h] at h'
  exact h'

/-- The micro-steps of a masked command that is still in progress at the end lead to the same state, up to the counters,
with turns of the timer, the interrupt context and the host anywhere between them. -/
theorem Steps.runTurns_masked {turns : List Agent} {n : Nat} {s e u : State} (hpath : Steps MicroStep n s e)
    (hmasked : s.ie = false) (hbusy : e.ph ≠ .idle) (hcount : turns.count .seq = n)
    (hrun : runTurns turns s = .next u) : SameButCounters e u := by
  induction turns generalizing n s e with
  | nil =>
    obtain rfl : 0 = n := hcount
    cases hpath
    cases hrun
    rfl
  | cons a rest ih =>
    obtain ⟨v, hstep, hrest⟩ := runTurns_cons_next hrun
    by_cases hseq : a = .seq
    · subst hseq
      rw [List.count_cons_self] at hcount
      cases hpath with
      | done => omega
      | step hmicro hpath =>
        obtain rfl := hmicro.unique (hstep.microStep hmicro.ph_ne_idle)
        exact ih hpath ((hmicro.masked_or_idle hmasked).resolve_right (hpath.ph_ne_idle hbusy)) hbusy (by omega) hrest
    · rw [List.count_cons_of_ne hseq] at hcount
      have hturn : SameButCounters s v := hstep.masked_frame hseq (hpath.ph_ne_idle hbusy) hmasked
      obtain ⟨e', hpath', hend⟩ := timerCommutes_microStep.commute_steps hpath hturn
      exact hend.trans (ih hpath' (by rw [hturn, hmasked]) (by rwa [timerCommutes_microStep.ph hend]) hcount hrest)

/-! ### The long path up to `SET_3` -/

/-- Eight micro-steps bring a new frequency to `SET_3`, and one of them drives the pin low (R106). -/
theorem settone_steps_to_set3 {s : State} {f : Hertz} {k : BitVec 4} {sc : BitVec 8} (p : PinIndex)
    (hcalc : toneCalc s.cfg f = .ok (k, sc)) (hne : f ≠ s.freq) :
    ∃ e, Steps MicroStep 8 (((s.latchPin p).latchFreq f).goto .set1) e ∧ e.ph = .set3 ∧
      e.lvl = s.lvl.set p.toNat false :=
  have hpin := settone_pin_steps (s := ((s.latchPin p).latchFreq f).goto .set1) rfl hne
  ⟨_, hpin.trans <| .step (.set2c rfl hcalc) <| .step (.set2d rfl) <| .step (.set2eCmp rfl) <|
    .step (.set2eTcr rfl) .done, rfl, rfl⟩

/-- Settles O57: the eight micro-steps alone reach `SET_3` with the pin low, and the other turns change the counters. -/
theorem maskedSettoneStartsLow : Obligations.MaskedSettoneStartsLow := by
  unfold Obligations.MaskedSettoneStartsLow
  intro s t u p f turns hidle hmasked hlength hne hexec hcount hrun
  obtain ⟨hi, -⟩ | ⟨_, _, hi, hnone, rfl⟩ | ⟨_, hi, -⟩ := exec_idle hidle hexec <;> cases hi
  obtain ⟨-, k, sc, hcalc⟩ := valid_of_settoneFault?_eq_none hnone
  obtain ⟨e, hpath, hph, hlvl⟩ := settone_steps_to_set3 p hcalc hne
  rw [hpath.runTurns_masked hmasked (by simp [hph]) hcount hrun]
  exact ⟨hph, by rw [hlvl, List.getElem?_set_self hlength]⟩

end Sys2Proof.Machine
end

section
/-! PROOFS. Decoder and encoder as inverses of each other (spec/30_encoding.md R84 to R88): the statements O1, O2
and O6. -/

namespace Sys2Proof

/-- Settles O1: each field of a packed word is the field it was packed from. -/
theorem decodeOfEncode : Obligations.DecodeOfEncode :=
  decode_encode

/-- Settles O2: the tests of the decoder fix every field that the command does not carry as an operand. -/
theorem encodeOfDecode : Obligations.EncodeOfDecode :=
  fun _ _ hdecode => (eq_encode_of_decode hdecode).symm

/-- Settles O6: each legal word is what the encoder gives for its command, and each illegal word meets the test of its
case of R87. -/
theorem sampleWordsDecode : Obligations.SampleWordsDecode := by
  unfold Obligations.SampleWordsDecode
  refine ⟨?_, ?_, ?_, ?_, ?_, ?illegal⟩
  case illegal => decide
  all_goals exact decode_eq_ok_iff.mpr (by decide)

end Sys2Proof
end

section
/-! PROOFS. The invariant of the machine (`State.Inv`): it holds after reset, and a turn of any agent keeps it. A
micro-step keeps each clause because of what its phase writes (R39); the statements O53 and O54. -/

namespace Sys2Proof.Machine

/-! ### Reset (R40, R200) -/

theorem resetWith_inv (c : Params) : (State.resetWith c).Inv where
  dirLength := List.length_replicate
  lvlLength := List.length_replicate
  pinValid := nofun
  freqValid := absurd rfl
  latchPin := nofun
  latchFreq := nofun
  recorded := nofun
  stored := nofun
  scratch := nofun
  masked := nofun
  half := nofun
  programmed := fun _ => absurd rfl
  tcrForm := .inl rfl
  cmpRange := Nat.zero_le _
  stopped := fun _ => ⟨rfl, rfl, rfl⟩
  divider := Nat.two_pow_pos 15
  enabledPin := fun _ => rfl

/-- Settles O54, for the block's own parameters as for any. -/
theorem resetMeetsInvariant : Obligations.ResetMeetsInvariant :=
  ⟨resetWith_inv Config.params, resetWith_inv⟩

/-! ### ACCEPT (R100, R101) -/

/-- Entering the first phase of a command keeps the invariant if the operands of a SETTONE are valid. -/
theorem State.Inv.enter {s : State} (hinv : s.Inv) (hidle : s.ph = .idle) {p : PinIndex} {f : Hertz} {ph : Phase}
    (hstart : ph = .init1 ∨ ph = .set1 ∨ ph = .stop1)
    (hvalid : ph.isSettone = true → p.toNat < s.cfg.npins ∧ ValidFreq s.cfg f) :
    State.Inv { s with aPin := p, aFreq := f, ph := ph } := by
  have hprogrammed := hinv.programmed (by rw [hidle]; rfl)
  rcases hstart with rfl | rfl | rfl <;>
    exact { hinv with
      latchPin := fun hown => (hvalid hown).1
      latchFreq := fun hown => (hvalid hown).2
      recorded := nofun
      stored := nofun
      scratch := nofun
      masked := nofun
      half := nofun
      programmed := fun _ => hprogrammed }

theorem State.Inv.accept {i : Instr} {s t : State} (hinv : s.Inv) (hidle : s.ph = .idle) (h : exec i s = .next t) :
    t.Inv := by
  rcases exec_idle hidle h with ⟨-, rfl⟩ | ⟨p, f, -, hnone, rfl⟩ | ⟨p, -, rfl⟩
  · exact hinv.enter hidle (.inl rfl) nofun
  · exact hinv.enter hidle (.inr (.inl rfl)) fun _ => valid_of_settoneFault?_eq_none hnone
  · exact hinv.enter hidle (.inr (.inr rfl)) nofun

/-! ### One TICK (R150) and one dispatch (R154) -/

/-- R34: a divider that does not overflow is below the division factor, hence below the largest one. -/
theorem tick_psc_lt {s : State} (hpsc : s.psc.toNat < 2 ^ 15) : (tick s).psc.toNat < 2 ^ 15 := by
  by_cases hdue : s.psc.toNat + 1 ≥ s.divisor
  · have hzero : (tick s).psc = 0 := by
      by_cases hmatch : s.cnt = s.cmp
      · rw [tick_of_match hdue hmatch]
      · rw [tick_of_count hdue hmatch]
    rw [hzero]
    decide
  · have hle := s.divisor_le
    rw [tick_of_wait hdue]
    bv_omega

theorem State.Inv.tick {s : State} (hinv : s.Inv) (hrun : s.run = true) : (tick s).Inv := by
  have hstarted : s.tcr ≠ 0#8 := fun hzero => by simp [State.run, hzero] at hrun
  have hdivider := tick_psc_lt hinv.divider
  rw [tick_frame]
  exact { hinv with
    stopped := fun hzero => absurd hzero hstarted
    divider := hdivider }

theorem State.Inv.dispatch {s : State} (hinv : s.Inv) (p : PinIndex) :
    ((s.clearMatch.record .dispatch).pinToggle p).Inv :=
  { hinv with
    lvlLength := (pinToggle_lvl_length _ p).trans hinv.lvlLength
    stopped := fun hzero =>
      have ⟨hcnt, hpsc, _⟩ := hinv.stopped hzero
      ⟨hcnt, hpsc, rfl⟩ }

/-! ### One micro-step -/

section MicroStep

variable {s t : State} (h : MicroStep s t)
include h

/-- A SETTONE begins by ACCEPT alone (R100), never in a micro-step. -/
theorem MicroStep.isSettone_of_isSettone (hown : t.ph.isSettone = true) : s.ph.isSettone = true := by
  cases h with
  | init1 | set3 | stop1 | stop2 => cases hown
  | set1Long hph | set1Short hph | set2aMode hph | set2aLow hph | set2b hph | set2c hph | set2d hph | set2eCmp hph
  | set2eTcr hph => rw [hph]; rfl

/-- Only `SET_2E_CMP` leads to `SET_2E_TCR` (R110). -/
theorem MicroStep.half_of_set2eTcr : t.ph = .set2eTcr → t.cmp = compareValue t.tSc := by
  cases h with
  | set2eCmp => exact fun _ => rfl
  | _ => exact nofun

variable (hinv : s.Inv)
include hinv

/-- `SET_1` records the valid operand. -/
theorem MicroStep.keeps_pinValid : ∀ p, t.recordedPin = some p → p.toNat < t.cfg.npins := by
  cases h with
  | set1Long hph | set1Short hph => rintro _ ⟨⟩; exact hinv.latchPin (by rw [hph]; rfl)
  | _ => exact hinv.pinValid

/-- `INIT_1` writes 0 and `SET_2B` the valid operand. -/
theorem MicroStep.keeps_freqValid : t.freq ≠ 0#16 → ValidFreq t.cfg t.freq := by
  cases h with
  | init1 => exact absurd rfl
  | set2b hph => exact fun _ => hinv.latchFreq (by rw [hph]; rfl)
  | _ => exact hinv.freqValid

theorem MicroStep.keeps_recorded : t.ph.pinRecorded = true → t.recordedPin = some t.aPin := by
  cases h with
  | set1Long | set1Short => exact fun _ => rfl
  | set2aMode hph | set2aLow hph | set2b hph | set2c hph | set2d hph | set2eCmp hph | set2eTcr hph =>
    exact fun _ => hinv.recorded (by rw [hph]; rfl)
  | init1 | set3 | stop1 | stop2 => exact nofun

theorem MicroStep.keeps_stored : t.ph.freqStored = true → t.freq = t.aFreq := by
  cases h with
  | set1Short _ heq => exact fun _ => heq.symm
  | set2b => exact fun _ => rfl
  | set2c hph | set2d hph | set2eCmp hph | set2eTcr hph => exact fun _ => hinv.stored (by rw [hph]; rfl)
  | init1 | set1Long | set2aMode | set2aLow | set3 | stop1 | stop2 => exact nofun

theorem MicroStep.keeps_scratch : t.ph.scratchHeld = true → toneCalc t.cfg t.freq = .ok (t.tK, t.tSc) := by
  cases h with
  | set2c _ hcalc => exact fun _ => hcalc
  | set2d hph | set2eCmp hph => exact fun _ => hinv.scratch (by rw [hph]; rfl)
  | _ => exact nofun

theorem MicroStep.keeps_masked : t.ph.masked = true → t.ie = false := by
  cases h with
  | set2d | stop1 => exact fun _ => rfl
  | set2eCmp hph => exact fun _ => hinv.masked (by rw [hph]; rfl)
  | _ => exact nofun

/-- A new frequency is stored when the reconfiguration begins, and it ends with both timer registers written from the
calculator's answer for it. -/
theorem MicroStep.keeps_programmed : t.ph.retuning = false → t.freq ≠ 0#16 →
    ∃ k sc, toneCalc t.cfg t.freq = .ok (k, sc) ∧ t.cmp = compareValue sc ∧ t.tcr = controlValue k := by
  cases h with
  | init1 => exact fun _ => absurd rfl
  | set2b | set2c | set2d | set2eCmp => exact nofun
  | set2eTcr hph => exact fun _ _ => ⟨s.tK, s.tSc, hinv.scratch (by rw [hph]; rfl), hinv.half hph, rfl⟩
  | set1Long hph | set1Short hph | set2aMode hph | set2aLow hph | set3 hph | stop1 hph | stop2 hph =>
    exact fun _ => hinv.programmed (by rw [hph]; rfl)

theorem MicroStep.keeps_tcrForm : t.tcr = 0#8 ∨ ∃ k : BitVec 4, k.toNat < t.cfg.nps ∧ t.tcr = controlValue k := by
  cases h with
  | set2eTcr hph => exact .inr ⟨s.tK, step_lt_of_toneCalc (hinv.scratch (by rw [hph]; rfl)), rfl⟩
  | _ => exact hinv.tcrForm

/-- The scaled count is at least 1, so `SET_2E_CMP` never writes 255 (R139). -/
theorem MicroStep.keeps_cmpRange : t.cmp.toNat ≤ 254 := by
  cases h with
  | set2eCmp hph =>
    have hle : s.tSc.toNat ≤ 255 := Nat.le_of_lt_succ s.tSc.isLt
    calc (compareValue s.tSc).toNat
        = s.tSc.toNat - 1 := compareValue_toNat_of_toneCalc (hinv.scratch (by rw [hph]; rfl))
      _ ≤ 254 := Nat.sub_le_sub_right hle 1
  | _ => exact hinv.cmpRange

theorem MicroStep.keeps_stopped : t.tcr = 0#8 → t.cnt = 0#8 ∧ t.psc = 0#16 ∧ t.mp = false := by
  cases h with
  | set2eTcr =>
    intro hzero
    have hrun := controlValue_run s.tK
    rw [show controlValue s.tK = 0#8 from hzero] at hrun
    cases hrun
  | _ => exact hinv.stopped

/-- `SET_3` enables the interrupt after `SET_1` has recorded the pin. -/
theorem MicroStep.keeps_enabledPin : t.recordedPin = none → t.ie = false := by
  cases h with
  | set1Long | set1Short => exact nofun
  | set2d | stop1 => exact fun _ => rfl
  | set3 hph =>
    intro (hnone : s.recordedPin = none)
    rw [hinv.recorded (by rw [hph]; rfl)] at hnone
    cases hnone
  | _ => exact hinv.enabledPin

theorem MicroStep.keeps_inv : t.Inv where
  dirLength := by
    cases h with
    | set2aMode => exact (pinMode_dir_length s _).trans hinv.dirLength
    | _ => exact hinv.dirLength
  lvlLength := by
    cases h with
    | set2aLow | stop2 => exact (pinWrite_lvl_length s _ _).trans hinv.lvlLength
    | _ => exact hinv.lvlLength
  pinValid := h.keeps_pinValid hinv
  freqValid := h.keeps_freqValid hinv
  latchPin hown := by
    rw [h.frame]
    exact hinv.latchPin (h.isSettone_of_isSettone hown)
  latchFreq hown := by
    rw [h.frame]
    exact hinv.latchFreq (h.isSettone_of_isSettone hown)
  recorded := h.keeps_recorded hinv
  stored := h.keeps_stored hinv
  scratch := h.keeps_scratch hinv
  masked := h.keeps_masked hinv
  half := h.half_of_set2eTcr
  programmed := h.keeps_programmed hinv
  tcrForm := h.keeps_tcrForm hinv
  cmpRange := h.keeps_cmpRange hinv
  stopped := h.keeps_stopped hinv
  divider := by
    rw [h.frame]
    exact hinv.divider
  enabledPin := h.keeps_enabledPin hinv

end MicroStep

/-! ### One step of any agent -/

theorem AgentStep.keeps_inv {a : Agent} {s t : State} (h : AgentStep a s t) (hinv : s.Inv) : t.Inv := by
  cases h with
  | disabled => exact hinv
  | host hidle _ _ hexec =>
    refine State.Inv.accept ?_ ?_ hexec
    · exact { hinv with }
    · exact hidle
  | seq _ hmicro => exact hmicro.keeps_inv hinv
  | tmr hrun => exact hinv.tick hrun
  | irq => exact hinv.dispatch _

/-- The invariant does not speak of the schedule. -/
theorem State.Inv.spendTurn {s : State} (hinv : s.Inv) : (spendTurn s).Inv := by
  unfold Machine.spendTurn
  split <;> exact { hinv with }

/-- Settles O53: the turn is spent, then the agent takes its step. -/
theorem stepKeepsInvariant : Obligations.StepKeepsInvariant := by
  unfold Obligations.StepKeepsInvariant
  intro s t hinv hstep
  obtain ⟨a, _, -, rfl, hagent⟩ := step_next hstep
  exact hagent.keeps_inv hinv.spendTurn

end Sys2Proof.Machine
end
